-- ==== Sys2Proof/Word.lean ====
section
/-! DEFINITION. The word types of HDEC. Every quantity of the block is an unsigned integer of a stated width
(00_scope.md R6, R9, R10); bit 0 is the least significant bit. -/

namespace Sys2Proof

/-- A group word: the 32-bit value of eight characters (R14, R77). -/
abbrev Word := BitVec 32

/-- The 4-bit value of a digit (R14). -/
abbrev Nibble := BitVec 4

/-- One character of the text as it appears on the data input (R74). -/
abbrev Symbol := BitVec 8

/-- One of the eight 16-bit parts of an address (R14). -/
abbrev AddrGroup := BitVec 16

/-- The two input ports cmd and data of one step, cmd in bits 9 to 8 (R70). -/
abbrev CommandWord := BitVec 10

/-- The 4-bit key of a group select, G = CNT[6:3] (R85). -/
abbrev GroupKey := BitVec 4

/-- A position in the text, as CNT and ERR_POS hold it (R26, R30). -/
abbrev Position := BitVec 7

/-- The sequence of symbols given to one invocation (R14). -/
abbrev Text := List Symbol

end Sys2Proof
end

