-- ==== Sys2Proof/Config.lean ====
section
/-! DEFINITION. The parameters of HDEC. The block is not configurable in any of them: 00_scope.md R7 lists those the
document fixes and R8 those the spec fixes. The spec leaves no value open, so there is no free value here. -/

namespace Sys2Proof.Config

/-- Characters decoded per invocation (R7). -/
def nChars : Nat := 80

/-- Raw bytes those characters stand for (R7). -/
def nBytes : Nat := 40

/-- Characters per group (R7). -/
def groupChars : Nat := 8

/-- Groups per invocation (R7). -/
def nGroups : Nat := 10

/-- Address groups per address (R7). -/
def addrGroups : Nat := 8

/-- The widths of the eight fields of the Header record in the order of R7, an address as 128 bits. -/
def fieldWidths : List Nat := [4, 8, 20, 16, 8, 8, 128, 128]

/-- The numeric value of STATE = RUN, DONE and ERR (R28). -/
def codeRun : BitVec 2 := 0
def codeDone : BitVec 2 := 1
def codeErr : BitVec 2 := 2

/-- The numeric value of ERR_CAUSE for no error, NON_HEX and SHORT_INPUT (R8, R29). -/
def codeNoError : BitVec 2 := 0
def codeNonHex : BitVec 2 := 1
def codeShortInput : BitVec 2 := 2

/-- The four values of cmd (R71). -/
def cmdNop : BitVec 2 := 0
def cmdChar : BitVec 2 := 1
def cmdEnd : BitVec 2 := 2
def cmdStart : BitVec 2 := 3

end Sys2Proof.Config
end

