-- ==== Sys2Proof/Syntax.lean ====
section
/-! DEFINITION. The operations of HDEC, one constructor per row of spec/opcode_table.json in its order (30_encoding.md
R84, R90), and the words the block decodes (R70, R77, R85). -/

namespace Sys2Proof

/-- The 57 operations of R84. A control or digit command has no operand (R100 to R103, R123 to R144). A group select,
an extractor and a slicer have one operand, the group word W (R151 to R158, R170 to R193). CHAR with a non-digit is no
operation but the illegal encoding (R84, R86) and has no constructor. -/
inductive Instr where
  /-- NOP (R100). -/
  | nop
  /-- END (R103). -/
  | endText
  /-- START (R101). -/
  | start
  /-- HEX_0: symbol 0, nibble 0 (R123). -/
  | hex0
  /-- HEX_1: symbol 1, nibble 1 (R124). -/
  | hex1
  /-- HEX_2: symbol 2, nibble 2 (R125). -/
  | hex2
  /-- HEX_3: symbol 3, nibble 3 (R126). -/
  | hex3
  /-- HEX_4: symbol 4, nibble 4 (R127). -/
  | hex4
  /-- HEX_5: symbol 5, nibble 5 (R128). -/
  | hex5
  /-- HEX_6: symbol 6, nibble 6 (R129). -/
  | hex6
  /-- HEX_7: symbol 7, nibble 7 (R130). -/
  | hex7
  /-- HEX_8: symbol 8, nibble 8 (R131). -/
  | hex8
  /-- HEX_9: symbol 9, nibble 9 (R132). -/
  | hex9
  /-- HEX_LA: symbol a, nibble 10 (R133). -/
  | hexLA
  /-- HEX_LB: symbol b, nibble 11 (R134). -/
  | hexLB
  /-- HEX_LC: symbol c, nibble 12 (R135). -/
  | hexLC
  /-- HEX_LD: symbol d, nibble 13 (R136). -/
  | hexLD
  /-- HEX_LE: symbol e, nibble 14 (R137). -/
  | hexLE
  /-- HEX_LF: symbol f, nibble 15 (R138). -/
  | hexLF
  /-- HEX_UA: symbol A, nibble 10 (R139). -/
  | hexUA
  /-- HEX_UB: symbol B, nibble 11 (R140). -/
  | hexUB
  /-- HEX_UC: symbol C, nibble 12 (R141). -/
  | hexUC
  /-- HEX_UD: symbol D, nibble 13 (R142). -/
  | hexUD
  /-- HEX_UE: symbol E, nibble 14 (R143). -/
  | hexUE
  /-- HEX_UF: symbol F, nibble 15 (R144). -/
  | hexUF
  /-- SEL_G0 on the word of group 0 (R151). -/
  | selG0 (w : Word)
  /-- SEL_G1 on the word of group 1 (R152). -/
  | selG1 (w : Word)
  /-- SEL_G2 on the word of group 2 (R170). -/
  | selG2 (w : Word)
  /-- SEL_G3 on the word of group 3 (R171). -/
  | selG3 (w : Word)
  /-- SEL_G4 on the word of group 4 (R172). -/
  | selG4 (w : Word)
  /-- SEL_G5 on the word of group 5 (R173). -/
  | selG5 (w : Word)
  /-- SEL_G6 on the word of group 6 (R174). -/
  | selG6 (w : Word)
  /-- SEL_G7 on the word of group 7 (R175). -/
  | selG7 (w : Word)
  /-- SEL_G8 on the word of group 8 (R176). -/
  | selG8 (w : Word)
  /-- SEL_G9 on the word of group 9 (R177). -/
  | selG9 (w : Word)
  /-- EXT_VERSION (R153). -/
  | extVersion (w : Word)
  /-- EXT_TRAFFIC_CLASS (R154). -/
  | extTrafficClass (w : Word)
  /-- EXT_FLOW_LABEL (R155). -/
  | extFlowLabel (w : Word)
  /-- EXT_PAYLOAD_LENGTH (R156). -/
  | extPayloadLength (w : Word)
  /-- EXT_NEXT_HEADER (R157). -/
  | extNextHeader (w : Word)
  /-- EXT_HOP_LIMIT (R158). -/
  | extHopLimit (w : Word)
  /-- SLICE_SRC0 (R178). -/
  | sliceSrc0 (w : Word)
  /-- SLICE_SRC1 (R179). -/
  | sliceSrc1 (w : Word)
  /-- SLICE_SRC2 (R180). -/
  | sliceSrc2 (w : Word)
  /-- SLICE_SRC3 (R181). -/
  | sliceSrc3 (w : Word)
  /-- SLICE_SRC4 (R182). -/
  | sliceSrc4 (w : Word)
  /-- SLICE_SRC5 (R183). -/
  | sliceSrc5 (w : Word)
  /-- SLICE_SRC6 (R184). -/
  | sliceSrc6 (w : Word)
  /-- SLICE_SRC7 (R185). -/
  | sliceSrc7 (w : Word)
  /-- SLICE_DST0 (R186). -/
  | sliceDst0 (w : Word)
  /-- SLICE_DST1 (R187). -/
  | sliceDst1 (w : Word)
  /-- SLICE_DST2 (R188). -/
  | sliceDst2 (w : Word)
  /-- SLICE_DST3 (R189). -/
  | sliceDst3 (w : Word)
  /-- SLICE_DST4 (R190). -/
  | sliceDst4 (w : Word)
  /-- SLICE_DST5 (R191). -/
  | sliceDst5 (w : Word)
  /-- SLICE_DST6 (R192). -/
  | sliceDst6 (w : Word)
  /-- SLICE_DST7 (R193). -/
  | sliceDst7 (w : Word)
  deriving DecidableEq, Repr

/-- The field letters of the group word formats G0 (v, t, f), G1 (p, n, h) and GA (h, l) (R78, R79, R80). -/
inductive Letter where
  | v | t | f | p | n | h | l
  deriving DecidableEq, Repr

/-- The words the block decodes. A command word stands on the input ports (R70). A group select is chosen by the key
alone (R85), and an extractor or slicer by the group and the field letter (R77 to R82, R90); a group word has no opcode
bits, all 32 are data (R77), so it stands beside the key as the operand. -/
inductive Code where
  | command (w : CommandWord)
  | select (key : GroupKey) (w : Word)
  | field (key : GroupKey) (letter : Letter) (w : Word)
  deriving DecidableEq, Repr

/-- Why a word is no operation. -/
inductive Reject where
  /-- CHAR with a symbol that is not one of the 22 digits: the illegal encoding, one of 234 (R86). -/
  | nonDigitSymbol (c : Symbol)
  /-- A select key of 10 to 15, which never occurs (R87). -/
  | reservedSelectKey (key : GroupKey)
  /-- A field letter the format of the group does not have, or a key of 10 to 15 (R78 to R80, R87). -/
  | noSuchField (key : GroupKey) (letter : Letter)
  deriving DecidableEq, Repr

end Sys2Proof
end

