-- ==== Sys2Proof/WellFormed.lean ====
section
/-! DEFINITION. Which words and which operations are well formed, written from the prose rules (R73, R75, R77 to R80, R85
to R87) and not from the decoding tables of Decode.lean, so that the two check each other. -/

namespace Sys2Proof

/-- The codes of the 22 digits as three ranges (R120, R145). -/
def isDigitSymbol (c : Symbol) : Bool :=
  (0x30#8 ≤ c && c ≤ 0x39#8) || (0x41#8 ≤ c && c ≤ 0x46#8) || (0x61#8 ≤ c && c ≤ 0x66#8)

/-- The letters of the format of a group: G0 for group 0, G1 for group 1, GA for groups 2 to 9 (R77 to R80). -/
def lettersOf (key : GroupKey) : List Letter :=
  if key = 0#4 then [.v, .t, .f]
  else if key = 1#4 then [.p, .n, .h]
  else if key ≤ 9#4 then [.h, .l]
  else []

/-- A command word is well formed unless it is CHAR with a non-digit (R73, R86); a select key is 0 to 9 (R85, R87); a
field letter belongs to the format of its group (R78 to R80). Every 32-bit group word is legal (R77). -/
def Code.wellFormed : Code → Bool
  | .command w => w.extractLsb' 8 2 != Config.cmdChar || isDigitSymbol (w.extractLsb' 0 8)
  | .select key _ => key ≤ 9#4
  | .field key letter _ => (lettersOf key).contains letter

/-- Every term of Instr is well formed: an operand is a group word, and every 32-bit value is a legal word of every
format (R77). The operations without an operand have nothing to check. -/
def Instr.wellFormed : Instr → Bool
  | .nop | .endText | .start | .hex0 | .hex1 | .hex2
  | .hex3 | .hex4 | .hex5 | .hex6 | .hex7 | .hex8
  | .hex9 | .hexLA | .hexLB | .hexLC | .hexLD | .hexLE
  | .hexLF | .hexUA | .hexUB | .hexUC | .hexUD | .hexUE
  | .hexUF => true
  | .selG0 _ | .selG1 _ | .selG2 _ | .selG3 _
  | .selG4 _ | .selG5 _ | .selG6 _ | .selG7 _
  | .selG8 _ | .selG9 _ | .extVersion _ | .extTrafficClass _
  | .extFlowLabel _ | .extPayloadLength _ | .extNextHeader _ | .extHopLimit _
  | .sliceSrc0 _ | .sliceSrc1 _ | .sliceSrc2 _ | .sliceSrc3 _
  | .sliceSrc4 _ | .sliceSrc5 _ | .sliceSrc6 _ | .sliceSrc7 _
  | .sliceDst0 _ | .sliceDst1 _ | .sliceDst2 _ | .sliceDst3 _
  | .sliceDst4 _ | .sliceDst5 _ | .sliceDst6 _ | .sliceDst7 _ => true

end Sys2Proof
end

