-- ==== Sys2Proof/Decode.lean ====
section
/-! DEFINITION. The decoder and, after it, the encoder of the three kinds of word (30_encoding.md). Every word is an
operation or is rejected by name. -/

namespace Sys2Proof

/-- A row of the symbol table of R76. -/
structure SymbolRow where
  code : Symbol
  nibble : Nibble
  instr : Instr
  deriving DecidableEq, Repr

/-- The rows of R76 for the decimal digits. -/
def decimalRows : List SymbolRow := [
  ⟨0x30#8, 0#4, .hex0⟩,
  ⟨0x31#8, 1#4, .hex1⟩,
  ⟨0x32#8, 2#4, .hex2⟩,
  ⟨0x33#8, 3#4, .hex3⟩,
  ⟨0x34#8, 4#4, .hex4⟩,
  ⟨0x35#8, 5#4, .hex5⟩,
  ⟨0x36#8, 6#4, .hex6⟩,
  ⟨0x37#8, 7#4, .hex7⟩,
  ⟨0x38#8, 8#4, .hex8⟩,
  ⟨0x39#8, 9#4, .hex9⟩]

/-- The rows of R76 for the lower-case letters. -/
def lowerRows : List SymbolRow := [
  ⟨0x61#8, 10#4, .hexLA⟩,
  ⟨0x62#8, 11#4, .hexLB⟩,
  ⟨0x63#8, 12#4, .hexLC⟩,
  ⟨0x64#8, 13#4, .hexLD⟩,
  ⟨0x65#8, 14#4, .hexLE⟩,
  ⟨0x66#8, 15#4, .hexLF⟩]

/-- The rows of R76 for the upper-case letters. -/
def upperRows : List SymbolRow := [
  ⟨0x41#8, 10#4, .hexUA⟩,
  ⟨0x42#8, 11#4, .hexUB⟩,
  ⟨0x43#8, 12#4, .hexUC⟩,
  ⟨0x44#8, 13#4, .hexUD⟩,
  ⟨0x45#8, 14#4, .hexUE⟩,
  ⟨0x46#8, 15#4, .hexUF⟩]

/-- The symbol table of R76. The codes are those of general knowledge the spec takes (R74, K1; PRESUMED, log entry 5). -/
def symbolTable : List SymbolRow := decimalRows ++ lowerRows ++ upperRows

/-- The digit command of a symbol, if it is a digit (R76). -/
def decodeSymbol (c : Symbol) : Except Reject Instr :=
  match symbolTable.find? (fun r => r.code == c) with
  | some r => .ok r.instr
  | none => .error (.nonDigitSymbol c)

/-- The command of a command word. Only CHAR looks at the data bits (R70 to R73). -/
def decodeCommand (w : CommandWord) : Except Reject Instr :=
  if w.extractLsb' 8 2 = Config.cmdNop then .ok .nop
  else if w.extractLsb' 8 2 = Config.cmdChar then decodeSymbol (w.extractLsb' 0 8)
  else if w.extractLsb' 8 2 = Config.cmdEnd then .ok .endText
  else .ok .start

/-- The group select of a key (R85). -/
def decodeSelect (key : GroupKey) (w : Word) : Except Reject Instr :=
  match key.toNat with
  | 0 => .ok (.selG0 w)
  | 1 => .ok (.selG1 w)
  | 2 => .ok (.selG2 w)
  | 3 => .ok (.selG3 w)
  | 4 => .ok (.selG4 w)
  | 5 => .ok (.selG5 w)
  | 6 => .ok (.selG6 w)
  | 7 => .ok (.selG7 w)
  | 8 => .ok (.selG8 w)
  | 9 => .ok (.selG9 w)
  | _ => .error (.reservedSelectKey key)

/-- The extractor or slicer of a group and a field letter (R78 to R82). -/
def decodeField (key : GroupKey) (letter : Letter) (w : Word) : Except Reject Instr :=
  match key.toNat, letter with
  | 0, .v => .ok (.extVersion w)
  | 0, .t => .ok (.extTrafficClass w)
  | 0, .f => .ok (.extFlowLabel w)
  | 1, .p => .ok (.extPayloadLength w)
  | 1, .n => .ok (.extNextHeader w)
  | 1, .h => .ok (.extHopLimit w)
  | 2, .h => .ok (.sliceSrc0 w)
  | 2, .l => .ok (.sliceSrc1 w)
  | 3, .h => .ok (.sliceSrc2 w)
  | 3, .l => .ok (.sliceSrc3 w)
  | 4, .h => .ok (.sliceSrc4 w)
  | 4, .l => .ok (.sliceSrc5 w)
  | 5, .h => .ok (.sliceSrc6 w)
  | 5, .l => .ok (.sliceSrc7 w)
  | 6, .h => .ok (.sliceDst0 w)
  | 6, .l => .ok (.sliceDst1 w)
  | 7, .h => .ok (.sliceDst2 w)
  | 7, .l => .ok (.sliceDst3 w)
  | 8, .h => .ok (.sliceDst4 w)
  | 8, .l => .ok (.sliceDst5 w)
  | 9, .h => .ok (.sliceDst6 w)
  | 9, .l => .ok (.sliceDst7 w)
  | _, _ => .error (.noSuchField key letter)

/-- The decoder: total, rejecting by name (R73, R86, R87). -/
def decode : Code → Except Reject Instr
  | .command w => decodeCommand w
  | .select key w => decodeSelect key w
  | .field key letter w => decodeField key letter w

/-- The command word of R70: cmd in bits 9 to 8 and data in bits 7 to 0. -/
def commandWord (cmd : BitVec 2) (data : Symbol) : CommandWord := cmd ++ data

/-- The encoder: the word of an operation by the match and mask columns of R72, R76 and R85 and the formats of R78 to
R80. The data bits that NOP, END and START do not look at are encoded as 0 (log entry 8). -/
def encode : Instr → Code
  | .nop => .command 0x000#10
  | .endText => .command 0x200#10
  | .start => .command 0x300#10
  | .hex0 => .command 0x130#10
  | .hex1 => .command 0x131#10
  | .hex2 => .command 0x132#10
  | .hex3 => .command 0x133#10
  | .hex4 => .command 0x134#10
  | .hex5 => .command 0x135#10
  | .hex6 => .command 0x136#10
  | .hex7 => .command 0x137#10
  | .hex8 => .command 0x138#10
  | .hex9 => .command 0x139#10
  | .hexLA => .command 0x161#10
  | .hexLB => .command 0x162#10
  | .hexLC => .command 0x163#10
  | .hexLD => .command 0x164#10
  | .hexLE => .command 0x165#10
  | .hexLF => .command 0x166#10
  | .hexUA => .command 0x141#10
  | .hexUB => .command 0x142#10
  | .hexUC => .command 0x143#10
  | .hexUD => .command 0x144#10
  | .hexUE => .command 0x145#10
  | .hexUF => .command 0x146#10
  | .selG0 w => .select 0#4 w
  | .selG1 w => .select 1#4 w
  | .selG2 w => .select 2#4 w
  | .selG3 w => .select 3#4 w
  | .selG4 w => .select 4#4 w
  | .selG5 w => .select 5#4 w
  | .selG6 w => .select 6#4 w
  | .selG7 w => .select 7#4 w
  | .selG8 w => .select 8#4 w
  | .selG9 w => .select 9#4 w
  | .extVersion w => .field 0#4 .v w
  | .extTrafficClass w => .field 0#4 .t w
  | .extFlowLabel w => .field 0#4 .f w
  | .extPayloadLength w => .field 1#4 .p w
  | .extNextHeader w => .field 1#4 .n w
  | .extHopLimit w => .field 1#4 .h w
  | .sliceSrc0 w => .field 2#4 .h w
  | .sliceSrc1 w => .field 2#4 .l w
  | .sliceSrc2 w => .field 3#4 .h w
  | .sliceSrc3 w => .field 3#4 .l w
  | .sliceSrc4 w => .field 4#4 .h w
  | .sliceSrc5 w => .field 4#4 .l w
  | .sliceSrc6 w => .field 5#4 .h w
  | .sliceSrc7 w => .field 5#4 .l w
  | .sliceDst0 w => .field 6#4 .h w
  | .sliceDst1 w => .field 6#4 .l w
  | .sliceDst2 w => .field 7#4 .h w
  | .sliceDst3 w => .field 7#4 .l w
  | .sliceDst4 w => .field 8#4 .h w
  | .sliceDst5 w => .field 8#4 .l w
  | .sliceDst6 w => .field 9#4 .h w
  | .sliceDst7 w => .field 9#4 .l w

/-- The bits of a command word that its decoding looks at: the mask column of R72. -/
def commandMask (w : CommandWord) : CommandWord :=
  if w.extractLsb' 8 2 = Config.cmdChar then 0x3ff#10 else 0x300#10

/-- The word the block decodes for a row of spec/opcode_table.json whose bits are w in nbits bits (log entry 7). A row of
10 bits is a command word; a row of 4 bits is a select key, with a group word of zeros beside it; a row of 32 bits is a
group word, which has no opcode bits (R77), so no one operation is read from it. -/
def tableCode (nbits w : Nat) : Option Code :=
  if nbits ≤ 8 then (if w < 2 ^ 4 then some (.select (BitVec.ofNat 4 w) 0#32) else none)
  else if nbits ≤ 16 then (if w < 2 ^ 10 then some (.command (BitVec.ofNat 10 w)) else none)
  else none

/-- What the decoder reads from a row's bits, numbered as spec/opcode_table.json numbers them. -/
def decodeTableWord (nbits w : Nat) : Option Instr :=
  match tableCode nbits w with
  | some c =>
    match decode c with
    | .ok i => some i
    | .error _ => none
  | none => none

end Sys2Proof
end

