-- ==== Sys2Proof/Machine/State.lean ====
section
/-! DEFINITION. The state of HDEC as plain data (10_state.md R20), what a step can stop with, the reset state (R241), and
the values a host reads from the state (R17, R22, R36). -/

namespace Sys2Proof.Machine

/-- STATE (R28). Its code 3 never occurs and is left out of the type, as U5 advises (log entry 12). -/
inductive Status where
  | run | done | err
  deriving DecidableEq, Repr

/-- ERR_CAUSE (R29). Its code 3 never occurs and is left out of the type, as U5 advises (log entry 12). -/
inductive ErrCause where
  | noError | nonHex | shortInput
  deriving DecidableEq, Repr

/-- What the host puts on the input ports for one step (R21); clk is the step itself. -/
structure InputSample where
  rst : Bool
  cmd : BitVec 2
  data : Symbol
  deriving DecidableEq, Repr

/-- The registers of R20, 370 bits in all, and the model's own list of the samples still to come. -/
structure State where
  /-- VERSION -/
  version : BitVec 4
  /-- TRAFFIC_CLASS -/
  trafficClass : BitVec 8
  /-- FLOW_LABEL -/
  flowLabel : BitVec 20
  /-- PAYLOAD_LENGTH -/
  payloadLength : BitVec 16
  /-- NEXT_HEADER -/
  nextHeader : BitVec 8
  /-- HOP_LIMIT -/
  hopLimit : BitVec 8
  /-- SRC[0] to SRC[7] -/
  src : Vector AddrGroup 8
  /-- DST[0] to DST[7] -/
  dst : Vector AddrGroup 8
  /-- ACC -/
  acc : Word
  /-- CNT -/
  cnt : Position
  /-- STATE -/
  status : Status
  /-- ERR_CAUSE -/
  errCause : ErrCause
  /-- ERR_POS -/
  errPos : Position
  /-- The model's own: the samples of the input ports for the coming steps, the next one first (log entry 1). -/
  inputs : List InputSample
  deriving DecidableEq, Repr

/-- Reasons the machine stops with a fault: there are none. The block's one exception, ParseError, is a state and not a
stop (60_exceptions.md R224). -/
inductive Fault where
  deriving DecidableEq, Repr

/-- Reasons a step has no meaning. -/
inductive Refusal where
  /-- Raised by an arm of exec whose instruction has no meaning yet (safe). No arm is left. -/
  | notModelled (mnemonic : String)
  /-- Raised by NOP, END and CHAR in a state that breaks R32 (a) to (d), which is no state of the block (R87, U5): safe,
  no run from reset meets it (log entry 3). -/
  | notAStateOfTheBlock
  /-- Raised by the mux array for a select key of 10 to 15, which never occurs (R87, U5): safe, no run from reset meets
  it. -/
  | reservedSelectKey (key : GroupKey)
  deriving DecidableEq, Repr

/-- ResetState: all 370 bits of R20 are 0 (R33, R241), and no sample is waiting (log entry 2). -/
def State.reset : State where
  version := 0
  trafficClass := 0
  flowLabel := 0
  payloadLength := 0
  nextHeader := 0
  hopLimit := 0
  src := Vector.replicate 8 0
  dst := Vector.replicate 8 0
  acc := 0
  cnt := 0
  status := .run
  errCause := .noError
  errPos := 0
  inputs := []

/-- The Header record: eight fields, a value with no identity beyond them (R36, R202). -/
structure HeaderRecord where
  version : BitVec 4
  trafficClass : BitVec 8
  flowLabel : BitVec 20
  payloadLength : BitVec 16
  nextHeader : BitVec 8
  hopLimit : BitVec 8
  sourceAddress : Vector AddrGroup 8
  destinationAddress : Vector AddrGroup 8
  deriving DecidableEq, Repr

/-- What the host can observe of an invocation: that it still runs, a record, or a ParseError (R17). -/
inductive Observation where
  | running
  | record (r : HeaderRecord)
  | parseError (cause : ErrCause) (pos : Nat)
  deriving DecidableEq, Repr

/-- The output ports of R22. -/
structure Outputs where
  inReady : BitVec 1
  recValid : BitVec 1
  err : BitVec 1
  errCause : BitVec 2
  errPos : BitVec 7
  version : BitVec 4
  trafficClass : BitVec 8
  flowLabel : BitVec 20
  payloadLength : BitVec 16
  nextHeader : BitVec 8
  hopLimit : BitVec 8
  srcAddr : BitVec 128
  dstAddr : BitVec 128
  deriving DecidableEq, Repr

/-- The result of the reference function Decode on a text (R200). -/
inductive DecodeResult where
  | ok (r : HeaderRecord)
  | error (cause : ErrCause) (pos : Nat)
  deriving DecidableEq, Repr

end Sys2Proof.Machine
end

