-- ==== Sys2Proof/Machine/Operands.lean ====
section
/-! DEFINITION. How operands are formed: the value of a symbol (R120), the shift-in (R121), the shift-and-mask extraction
(R150), and the two views of CNT (R27). -/

namespace Sys2Proof.Machine

/-- HexVal(c): the value of a digit, or none (R120). The three subtractions cannot go below 0. -/
def hexVal (c : Symbol) : Option Nibble :=
  if 0x30#8 ≤ c ∧ c ≤ 0x39#8 then some ((c - 0x30#8).setWidth 4)
  else if 0x41#8 ≤ c ∧ c ≤ 0x46#8 then some ((c - 0x41#8 + 10#8).setWidth 4)
  else if 0x61#8 ≤ c ∧ c ≤ 0x66#8 then some ((c - 0x61#8 + 10#8).setWidth 4)
  else none

/-- The symbol that writes a nibble as a lower-case digit (R76, R203). -/
def digitSymbol (d : Nibble) : Symbol :=
  if d ≤ 9#4 then 0x30#8 + d.setWidth 8 else 0x57#8 + d.setWidth 8

/-- W = ACC[27:0] ++ d: the old ACC moved up by 4, its top 4 bits lost (R121). -/
def shiftIn (acc : Word) (d : Nibble) : Word := acc.extractLsb' 0 28 ++ d

/-- The mask 2^w - 1 of a field of width w (R82, R159). -/
def fieldMask (w : Nat) : Word := BitVec.ofNat 32 (2 ^ w - 1)

/-- Extract(W, p, w): shift right by p, then mask with 2^w - 1 (R150). -/
def extract (word : Word) (p w : Nat) : BitVec w := ((word >>> p) &&& fieldMask w).setWidth w

/-- The high-half slicer of R195. -/
def highHalf (word : Word) : AddrGroup := extract word 16 16

/-- The low-half slicer of R195. -/
def lowHalf (word : Word) : AddrGroup := extract word 0 16

/-- The group index G = CNT[6:3] (R27). -/
def groupIndex (cnt : Position) : GroupKey := cnt.extractLsb' 3 4

/-- The digit index N = CNT[2:0] (R27). -/
def digitIndex (cnt : Position) : BitVec 3 := cnt.extractLsb' 0 3

end Sys2Proof.Machine
end

