-- ==== Sys2Proof/Machine/Flags.lean ====
section
/-! DEFINITION. The status of the block (R28 to R30), the output ports (R22) and what the host observes (R17, R36). -/

namespace Sys2Proof.Machine

/-- The 2-bit value of STATE (R28). -/
def Status.code : Status → BitVec 2
  | .run => Config.codeRun
  | .done => Config.codeDone
  | .err => Config.codeErr

/-- The 2-bit value of ERR_CAUSE (R29). -/
def ErrCause.code : ErrCause → BitVec 2
  | .noError => Config.codeNoError
  | .nonHex => Config.codeNonHex
  | .shortInput => Config.codeShortInput

/-- STATE after a digit accepted at position cnt in RUN: DONE at position 79, else unchanged (R106). -/
def statusAfterDigit (cnt : Position) (old : Status) : Status := if cnt = 79#7 then .done else old

/-- rec_valid: 1 when STATE = DONE (R22). -/
def State.recValid (s : State) : BitVec 1 := if s.status = .done then 1 else 0

/-- err: 1 when STATE = ERR (R22). -/
def State.err (s : State) : BitVec 1 := if s.status = .err then 1 else 0

/-- Eight address groups as one 128-bit value, group 0 in bits 127 to 112 (R83, R194). -/
def packAddress (a : Vector AddrGroup 8) : BitVec 128 :=
  a[0] ++ a[1] ++ a[2] ++ a[3] ++ a[4] ++ a[5] ++ a[6] ++ a[7]

/-- The output ports: plain wires from the registers but for the two comparisons (R22, R249). -/
def State.outputs (s : State) : Outputs where
  inReady := 1
  recValid := s.recValid
  err := s.err
  errCause := s.errCause.code
  errPos := s.errPos
  version := s.version
  trafficClass := s.trafficClass
  flowLabel := s.flowLabel
  payloadLength := s.payloadLength
  nextHeader := s.nextHeader
  hopLimit := s.hopLimit
  srcAddr := packAddress s.src
  dstAddr := packAddress s.dst

/-- The field registers read as a record. They are one only in DONE (R36, R37). -/
def State.fieldRegisters (s : State) : HeaderRecord where
  version := s.version
  trafficClass := s.trafficClass
  flowLabel := s.flowLabel
  payloadLength := s.payloadLength
  nextHeader := s.nextHeader
  hopLimit := s.hopLimit
  sourceAddress := s.src
  destinationAddress := s.dst

/-- Record(S): defined only for a state with STATE = DONE (R36). -/
def State.record (s : State) : Option HeaderRecord :=
  if s.status = .done then some s.fieldRegisters else none

/-- What the host can observe of the invocation (R17). -/
def State.observe (s : State) : Observation :=
  match s.status with
  | .run => .running
  | .done => .record s.fieldRegisters
  | .err => .parseError s.errCause s.errPos.toNat

end Sys2Proof.Machine
end

