-- ==== Sys2Proof/Machine/Ops.lean ====
section
/-! DEFINITION. The named operations over the registers, the ports' samples and the status; raising ParseError, the one
exception (60_exceptions.md R224), and what ends it (R227). The block has no memory (20_memory.md R50). -/

namespace Sys2Proof.Machine

/-- VERSION <- v (R11). -/
def State.setVersion (s : State) (v : BitVec 4) : State := { s with version := v }

/-- TRAFFIC_CLASS <- v (R11). -/
def State.setTrafficClass (s : State) (v : BitVec 8) : State := { s with trafficClass := v }

/-- FLOW_LABEL <- v (R11). -/
def State.setFlowLabel (s : State) (v : BitVec 20) : State := { s with flowLabel := v }

/-- PAYLOAD_LENGTH <- v (R11). -/
def State.setPayloadLength (s : State) (v : BitVec 16) : State := { s with payloadLength := v }

/-- NEXT_HEADER <- v (R11). -/
def State.setNextHeader (s : State) (v : BitVec 8) : State := { s with nextHeader := v }

/-- HOP_LIMIT <- v (R11). -/
def State.setHopLimit (s : State) (v : BitVec 8) : State := { s with hopLimit := v }

/-- SRC[k] <- v (R11, R24). -/
def State.setSrc (s : State) (k : Fin 8) (v : AddrGroup) : State :=
  { s with src := s.src.set k v }

/-- DST[k] <- v (R11, R24). -/
def State.setDst (s : State) (k : Fin 8) (v : AddrGroup) : State :=
  { s with dst := s.dst.set k v }

/-- What a digit writes beside the field registers: ACC <- W, CNT <- CNT + 1, and STATE <- DONE at the 80th digit
(R102, R105, R106). Every read is of the state before the step (R11). -/
def State.advance (s : State) (w : Word) : State :=
  { s with acc := w, cnt := s.cnt + 1#7, status := statusAfterDigit s.cnt s.status }

/-- raise ParseError(cause, pos): three writes and nothing else. No handler, no saved address (R224). -/
def State.raiseParseError (s : State) (cause : ErrCause) (pos : Position) : State :=
  { s with status := .err, errCause := cause, errPos := pos }

/-- Every register of R20 <- 0. It is the reset state (R241) and the effect of START (R101). There is no return from
ParseError; this is the only way on from it (R227). The samples still to come are the host's and stay. -/
def State.clear (s : State) : State := { State.reset with inputs := s.inputs }

/-- The samples to come. -/
def State.withInputs (s : State) (ps : List InputSample) : State := { s with inputs := ps }

/-- The port values of a step at which the host drives nothing: an idle port is all zeros, which is NOP (R71, D2; log
entry 2). -/
def idleSample : InputSample := ⟨false, Config.cmdNop, 0⟩

/-- The sample the next step takes (R21). -/
def State.nextSample (s : State) : InputSample := s.inputs.headD idleSample

/-- The state once its next sample is taken. -/
def State.takeSample (s : State) : State := s.withInputs s.inputs.tail

/-- The command word on the ports (R70). -/
def InputSample.word (p : InputSample) : CommandWord := commandWord p.cmd p.data

/-- The sample that puts a command word on the ports. -/
def InputSample.ofWord (w : CommandWord) : InputSample := ⟨false, w.extractLsb' 8 2, w.extractLsb' 0 8⟩

/-- R32 (b), (c) and (d) as a check on STATE, CNT, ERR_CAUSE and ERR_POS; (a) holds by type. A state that fails it is no
state of the block (R87, U5; log entry 3). -/
def State.legal (s : State) : Bool :=
  match s.status with
  | .run => s.cnt ≤ 79#7 && s.errCause = .noError && s.errPos = 0#7
  | .done => s.cnt = 80#7 && s.errCause = .noError && s.errPos = 0#7
  | .err => s.cnt ≤ 79#7 && s.errCause ≠ .noError && s.errPos = s.cnt

/-- The outcome of a step or of a part of one. -/
abbrev Result := Host.Outcome State Fault Refusal

/-- One part of a step after another. -/
def andThen (o : Result) (f : State → Result) : Result :=
  match o with
  | .next s => f s
  | .fault r => .fault r
  | .refused r => .refused r

/-- A command in a state of the block; a state that is none is refused (U5; log entry 3). -/
def State.whenLegal (s : State) (o : Result) : Result :=
  if s.legal then o else .refused .notAStateOfTheBlock

/-- A command that works only while STATE = RUN and changes no register in DONE and ERR (R107). -/
def State.whenRunning (s : State) (o : Result) : Result :=
  s.whenLegal (if s.status = .run then o else .next s)

end Sys2Proof.Machine
end

