-- ==== Sys2Proof/Machine/Control.lean ====
section
/-! DEFINITION. The control commands NOP, END and START (40_port_commands.md R100, R101, R103). -/

namespace Sys2Proof.Machine

/-- NOP: every register keeps its value (R100). -/
def execNop (s : State) : Result := s.whenLegal (.next s)

/-- END: ParseError(SHORT_INPUT, CNT) in RUN, nothing in DONE and ERR (R103, R223). -/
def execEndText (s : State) : Result := s.whenRunning (.next (s.raiseParseError .shortInput s.cnt))

/-- START: every register <- 0, whatever the state before (R101, R34). -/
def execStart (s : State) : Result := .next s.clear

end Sys2Proof.Machine
end

