-- ==== Sys2Proof/Machine/Extractors.lean ====
section
/-! DEFINITION. The six scalar extractors (42_scalar_extractors.md R153 to R158). Each writes its one register with its
shift and mask of the group word; none writes status and none raises an exception. -/

namespace Sys2Proof.Machine

/-- EXT_VERSION: VERSION <- Extract(W, 28, 4) (R153). -/
def execExtVersion (w : Word) (s : State) : Result := .next (s.setVersion (extract w 28 4))

/-- EXT_TRAFFIC_CLASS: TRAFFIC_CLASS <- Extract(W, 20, 8) (R154). -/
def execExtTrafficClass (w : Word) (s : State) : Result := .next (s.setTrafficClass (extract w 20 8))

/-- EXT_FLOW_LABEL: FLOW_LABEL <- Extract(W, 0, 20) (R155). -/
def execExtFlowLabel (w : Word) (s : State) : Result := .next (s.setFlowLabel (extract w 0 20))

/-- EXT_PAYLOAD_LENGTH: PAYLOAD_LENGTH <- Extract(W, 16, 16) (R156). -/
def execExtPayloadLength (w : Word) (s : State) : Result := .next (s.setPayloadLength (extract w 16 16))

/-- EXT_NEXT_HEADER: NEXT_HEADER <- Extract(W, 8, 8) (R157). -/
def execExtNextHeader (w : Word) (s : State) : Result := .next (s.setNextHeader (extract w 8 8))

/-- EXT_HOP_LIMIT: HOP_LIMIT <- Extract(W, 0, 8) (R158). -/
def execExtHopLimit (w : Word) (s : State) : Result := .next (s.setHopLimit (extract w 0 8))

end Sys2Proof.Machine
end

