-- ==== Sys2Proof/Machine/Slicers.lean ====
section
/-! DEFINITION. The sixteen address slicers (43_address_slicers.md R178 to R193): the high half of the group word goes to
the even address group and the low half to the odd one (R195). -/

namespace Sys2Proof.Machine

/-- SLICE_SRC0: SRC[0] <- W[31:16], enabled by SEL_G2 (R178). -/
def execSliceSrc0 (w : Word) (s : State) : Result := .next (s.setSrc 0 (highHalf w))

/-- SLICE_SRC1: SRC[1] <- W[15:0], enabled by SEL_G2 (R179). -/
def execSliceSrc1 (w : Word) (s : State) : Result := .next (s.setSrc 1 (lowHalf w))

/-- SLICE_SRC2: SRC[2] <- W[31:16], enabled by SEL_G3 (R180). -/
def execSliceSrc2 (w : Word) (s : State) : Result := .next (s.setSrc 2 (highHalf w))

/-- SLICE_SRC3: SRC[3] <- W[15:0], enabled by SEL_G3 (R181). -/
def execSliceSrc3 (w : Word) (s : State) : Result := .next (s.setSrc 3 (lowHalf w))

/-- SLICE_SRC4: SRC[4] <- W[31:16], enabled by SEL_G4 (R182). -/
def execSliceSrc4 (w : Word) (s : State) : Result := .next (s.setSrc 4 (highHalf w))

/-- SLICE_SRC5: SRC[5] <- W[15:0], enabled by SEL_G4 (R183). -/
def execSliceSrc5 (w : Word) (s : State) : Result := .next (s.setSrc 5 (lowHalf w))

/-- SLICE_SRC6: SRC[6] <- W[31:16], enabled by SEL_G5 (R184). -/
def execSliceSrc6 (w : Word) (s : State) : Result := .next (s.setSrc 6 (highHalf w))

/-- SLICE_SRC7: SRC[7] <- W[15:0], enabled by SEL_G5 (R185). -/
def execSliceSrc7 (w : Word) (s : State) : Result := .next (s.setSrc 7 (lowHalf w))

/-- SLICE_DST0: DST[0] <- W[31:16], enabled by SEL_G6 (R186). -/
def execSliceDst0 (w : Word) (s : State) : Result := .next (s.setDst 0 (highHalf w))

/-- SLICE_DST1: DST[1] <- W[15:0], enabled by SEL_G6 (R187). -/
def execSliceDst1 (w : Word) (s : State) : Result := .next (s.setDst 1 (lowHalf w))

/-- SLICE_DST2: DST[2] <- W[31:16], enabled by SEL_G7 (R188). -/
def execSliceDst2 (w : Word) (s : State) : Result := .next (s.setDst 2 (highHalf w))

/-- SLICE_DST3: DST[3] <- W[15:0], enabled by SEL_G7 (R189). -/
def execSliceDst3 (w : Word) (s : State) : Result := .next (s.setDst 3 (lowHalf w))

/-- SLICE_DST4: DST[4] <- W[31:16], enabled by SEL_G8 (R190). -/
def execSliceDst4 (w : Word) (s : State) : Result := .next (s.setDst 4 (highHalf w))

/-- SLICE_DST5: DST[5] <- W[15:0], enabled by SEL_G8 (R191). -/
def execSliceDst5 (w : Word) (s : State) : Result := .next (s.setDst 5 (lowHalf w))

/-- SLICE_DST6: DST[6] <- W[31:16], enabled by SEL_G9 (R192). -/
def execSliceDst6 (w : Word) (s : State) : Result := .next (s.setDst 6 (highHalf w))

/-- SLICE_DST7: DST[7] <- W[15:0], enabled by SEL_G9 (R193). -/
def execSliceDst7 (w : Word) (s : State) : Result := .next (s.setDst 7 (lowHalf w))

end Sys2Proof.Machine
end

