-- ==== Sys2Proof/Machine/Selects.lean ====
section
/-! DEFINITION. The ten group selects of the mux array (R151, R152, R170 to R177): each fires the extractors or slicers
that the table of R85 gives it, on one group word. Their writes are to different registers and read only the word, so
they happen together (R57). When a select fires is the digit commands' business (R85, R102; log entry 6). -/

namespace Sys2Proof.Machine

/-- SEL_G0 (R151). -/
def execSelG0 (w : Word) (s : State) : Result :=
  andThen (andThen (execExtVersion w s) (execExtTrafficClass w)) (execExtFlowLabel w)

/-- SEL_G1 (R152). -/
def execSelG1 (w : Word) (s : State) : Result :=
  andThen (andThen (execExtPayloadLength w s) (execExtNextHeader w)) (execExtHopLimit w)

/-- SEL_G2 (R170). -/
def execSelG2 (w : Word) (s : State) : Result :=
  andThen (execSliceSrc0 w s) (execSliceSrc1 w)

/-- SEL_G3 (R171). -/
def execSelG3 (w : Word) (s : State) : Result :=
  andThen (execSliceSrc2 w s) (execSliceSrc3 w)

/-- SEL_G4 (R172). -/
def execSelG4 (w : Word) (s : State) : Result :=
  andThen (execSliceSrc4 w s) (execSliceSrc5 w)

/-- SEL_G5 (R173). -/
def execSelG5 (w : Word) (s : State) : Result :=
  andThen (execSliceSrc6 w s) (execSliceSrc7 w)

/-- SEL_G6 (R174). -/
def execSelG6 (w : Word) (s : State) : Result :=
  andThen (execSliceDst0 w s) (execSliceDst1 w)

/-- SEL_G7 (R175). -/
def execSelG7 (w : Word) (s : State) : Result :=
  andThen (execSliceDst2 w s) (execSliceDst3 w)

/-- SEL_G8 (R176). -/
def execSelG8 (w : Word) (s : State) : Result :=
  andThen (execSliceDst4 w s) (execSliceDst5 w)

/-- SEL_G9 (R177). -/
def execSelG9 (w : Word) (s : State) : Result :=
  andThen (execSliceDst6 w s) (execSliceDst7 w)

/-- The mux array: the select of group index G fires on W (R85, R161). A key of 10 to 15 never occurs and is refused
(R87, U5). -/
def fireSelect (key : GroupKey) (w : Word) (s : State) : Result :=
  match key.toNat with
  | 0 => execSelG0 w s
  | 1 => execSelG1 w s
  | 2 => execSelG2 w s
  | 3 => execSelG3 w s
  | 4 => execSelG4 w s
  | 5 => execSelG5 w s
  | 6 => execSelG6 w s
  | 7 => execSelG7 w s
  | 8 => execSelG8 w s
  | 9 => execSelG9 w s
  | _ => .refused (.reservedSelectKey key)

end Sys2Proof.Machine
end

