-- ==== Sys2Proof/Machine/Digits.lean ====
section
/-! DEFINITION. The digit commands (41_hex_shifter.md R123 to R144): one shared operation for CHAR with a digit (R102,
R121), and CHAR with a non-digit, the illegal encoding (R86, R145, R222). -/

namespace Sys2Proof.Machine

/-- CHAR with a digit of value d while STATE = RUN (R102): shift d into ACC, count it, end the invocation at the 80th
digit, and at the eighth digit of a group fire the group's select on the word just completed. -/
def State.shiftDigit (s : State) (d : Nibble) : Result :=
  if digitIndex s.cnt = 7#3 then fireSelect (groupIndex s.cnt) (shiftIn s.acc d) (s.advance (shiftIn s.acc d))
  else .next (s.advance (shiftIn s.acc d))

/-- CHAR with a digit of value d in any state (R102, R107). -/
def State.acceptDigit (s : State) (d : Nibble) : Result := s.whenRunning (s.shiftDigit d)

/-- CHAR with a non-digit: ParseError(NON_HEX, CNT) in RUN, ignored in DONE and ERR (R86, R145, R222). It is no row of
the opcode table (R84); Sequencer.lean takes it when the decoder rejects the symbol. -/
def State.acceptNonDigit (s : State) : Result := s.whenRunning (.next (s.raiseParseError .nonHex s.cnt))

/-- HEX_0 (R123). -/
def execHex0 (s : State) : Result := s.acceptDigit 0#4

/-- HEX_1 (R124). -/
def execHex1 (s : State) : Result := s.acceptDigit 1#4

/-- HEX_2 (R125). -/
def execHex2 (s : State) : Result := s.acceptDigit 2#4

/-- HEX_3 (R126). -/
def execHex3 (s : State) : Result := s.acceptDigit 3#4

/-- HEX_4 (R127). -/
def execHex4 (s : State) : Result := s.acceptDigit 4#4

/-- HEX_5 (R128). -/
def execHex5 (s : State) : Result := s.acceptDigit 5#4

/-- HEX_6 (R129). -/
def execHex6 (s : State) : Result := s.acceptDigit 6#4

/-- HEX_7 (R130). -/
def execHex7 (s : State) : Result := s.acceptDigit 7#4

/-- HEX_8 (R131). -/
def execHex8 (s : State) : Result := s.acceptDigit 8#4

/-- HEX_9 (R132). -/
def execHex9 (s : State) : Result := s.acceptDigit 9#4

/-- HEX_LA (R133). -/
def execHexLA (s : State) : Result := s.acceptDigit 10#4

/-- HEX_LB (R134). -/
def execHexLB (s : State) : Result := s.acceptDigit 11#4

/-- HEX_LC (R135). -/
def execHexLC (s : State) : Result := s.acceptDigit 12#4

/-- HEX_LD (R136). -/
def execHexLD (s : State) : Result := s.acceptDigit 13#4

/-- HEX_LE (R137). -/
def execHexLE (s : State) : Result := s.acceptDigit 14#4

/-- HEX_LF (R138). -/
def execHexLF (s : State) : Result := s.acceptDigit 15#4

/-- HEX_UA (R139). -/
def execHexUA (s : State) : Result := s.acceptDigit 10#4

/-- HEX_UB (R140). -/
def execHexUB (s : State) : Result := s.acceptDigit 11#4

/-- HEX_UC (R141). -/
def execHexUC (s : State) : Result := s.acceptDigit 12#4

/-- HEX_UD (R142). -/
def execHexUD (s : State) : Result := s.acceptDigit 13#4

/-- HEX_UE (R143). -/
def execHexUE (s : State) : Result := s.acceptDigit 14#4

/-- HEX_UF (R144). -/
def execHexUF (s : State) : Result := s.acceptDigit 15#4

end Sys2Proof.Machine
end

