-- ==== Sys2Proof/Machine/Dispatch.lean ====
section
/-! DEFINITION. Which meaning each operation has: one arm per constructor of Instr. -/

namespace Sys2Proof.Machine

def exec (i : Instr) (s : State) : Host.Outcome State Fault Refusal :=
  match i with
  | .nop => Sys2Proof.Machine.execNop s
  | .endText => Sys2Proof.Machine.execEndText s
  | .start => Sys2Proof.Machine.execStart s
  | .hex0 => Sys2Proof.Machine.execHex0 s
  | .hex1 => Sys2Proof.Machine.execHex1 s
  | .hex2 => Sys2Proof.Machine.execHex2 s
  | .hex3 => Sys2Proof.Machine.execHex3 s
  | .hex4 => Sys2Proof.Machine.execHex4 s
  | .hex5 => Sys2Proof.Machine.execHex5 s
  | .hex6 => Sys2Proof.Machine.execHex6 s
  | .hex7 => Sys2Proof.Machine.execHex7 s
  | .hex8 => Sys2Proof.Machine.execHex8 s
  | .hex9 => Sys2Proof.Machine.execHex9 s
  | .hexLA => Sys2Proof.Machine.execHexLA s
  | .hexLB => Sys2Proof.Machine.execHexLB s
  | .hexLC => Sys2Proof.Machine.execHexLC s
  | .hexLD => Sys2Proof.Machine.execHexLD s
  | .hexLE => Sys2Proof.Machine.execHexLE s
  | .hexLF => Sys2Proof.Machine.execHexLF s
  | .hexUA => Sys2Proof.Machine.execHexUA s
  | .hexUB => Sys2Proof.Machine.execHexUB s
  | .hexUC => Sys2Proof.Machine.execHexUC s
  | .hexUD => Sys2Proof.Machine.execHexUD s
  | .hexUE => Sys2Proof.Machine.execHexUE s
  | .hexUF => Sys2Proof.Machine.execHexUF s
  | .selG0 w => Sys2Proof.Machine.execSelG0 w s
  | .selG1 w => Sys2Proof.Machine.execSelG1 w s
  | .selG2 w => Sys2Proof.Machine.execSelG2 w s
  | .selG3 w => Sys2Proof.Machine.execSelG3 w s
  | .selG4 w => Sys2Proof.Machine.execSelG4 w s
  | .selG5 w => Sys2Proof.Machine.execSelG5 w s
  | .selG6 w => Sys2Proof.Machine.execSelG6 w s
  | .selG7 w => Sys2Proof.Machine.execSelG7 w s
  | .selG8 w => Sys2Proof.Machine.execSelG8 w s
  | .selG9 w => Sys2Proof.Machine.execSelG9 w s
  | .extVersion w => Sys2Proof.Machine.execExtVersion w s
  | .extTrafficClass w => Sys2Proof.Machine.execExtTrafficClass w s
  | .extFlowLabel w => Sys2Proof.Machine.execExtFlowLabel w s
  | .extPayloadLength w => Sys2Proof.Machine.execExtPayloadLength w s
  | .extNextHeader w => Sys2Proof.Machine.execExtNextHeader w s
  | .extHopLimit w => Sys2Proof.Machine.execExtHopLimit w s
  | .sliceSrc0 w => Sys2Proof.Machine.execSliceSrc0 w s
  | .sliceSrc1 w => Sys2Proof.Machine.execSliceSrc1 w s
  | .sliceSrc2 w => Sys2Proof.Machine.execSliceSrc2 w s
  | .sliceSrc3 w => Sys2Proof.Machine.execSliceSrc3 w s
  | .sliceSrc4 w => Sys2Proof.Machine.execSliceSrc4 w s
  | .sliceSrc5 w => Sys2Proof.Machine.execSliceSrc5 w s
  | .sliceSrc6 w => Sys2Proof.Machine.execSliceSrc6 w s
  | .sliceSrc7 w => Sys2Proof.Machine.execSliceSrc7 w s
  | .sliceDst0 w => Sys2Proof.Machine.execSliceDst0 w s
  | .sliceDst1 w => Sys2Proof.Machine.execSliceDst1 w s
  | .sliceDst2 w => Sys2Proof.Machine.execSliceDst2 w s
  | .sliceDst3 w => Sys2Proof.Machine.execSliceDst3 w s
  | .sliceDst4 w => Sys2Proof.Machine.execSliceDst4 w s
  | .sliceDst5 w => Sys2Proof.Machine.execSliceDst5 w s
  | .sliceDst6 w => Sys2Proof.Machine.execSliceDst6 w s
  | .sliceDst7 w => Sys2Proof.Machine.execSliceDst7 w s

end Sys2Proof.Machine
end

