-- ==== Sys2Proof/Machine/Sequencer.lean ====
section
/-! DEFINITION. One active clock edge for one sample of the input ports: Step(S, rst, cmd, data) of R108, put together from
the decoder and the meanings; and how a row of the opcode table is staged so that the next step runs it. -/

namespace Sys2Proof.Machine

/-- Step(S, rst, cmd, data): rst wins over the command (R240); then the command word is decoded and its meaning runs; a
word the decoder rejects is CHAR with a non-digit (R73, R86). -/
def clockEdge (s : State) (p : InputSample) : Result :=
  if p.rst then .next s.clear
  else
    match decode (.command p.word) with
    | .ok i => exec i s
    | .error _ => s.acceptNonDigit

/-- A state in RUN one digit short of completing group g with the word w, that digit being on the ports: the next step
fires the select of g on w (R85). -/
def State.stageCommit (s : State) (g : GroupKey) (w : Word) : State :=
  { s with
    status := .run, errCause := .noError, errPos := 0
    cnt := g ++ 7#3
    acc := w >>> 4
    inputs := ⟨false, Config.cmdChar, digitSymbol (w.setWidth 4)⟩ :: s.inputs.tail }

/-- A word staged where the next step takes it (log entry 7): a command word on the ports; a select or a field by
completing its group with its word. -/
def State.stage (s : State) : Code → State
  | .command w => s.withInputs (InputSample.ofWord w :: s.inputs.tail)
  | .select key w => s.stageCommit key w
  | .field key _ w => s.stageCommit key w

/-- A row of the opcode table staged where the next step takes it. A row of more than 16 bits is a group word (R77): it
is staged as the word that completes the group of the present position. -/
def State.stageTableWord (s : State) (nbits w : Nat) : State :=
  match tableCode nbits w with
  | some c => s.stage c
  | none => s.stageCommit (groupIndex s.cnt) (BitVec.ofNat 32 w)

end Sys2Proof.Machine
end

