-- ==== Sys2Proof/Machine/Step.lean ====
section
/-! DEFINITION. The step of the machine: the next sample of the ports is taken and the block makes one clock edge. -/

namespace Sys2Proof.Machine

/-- One step (R15, R21, R108). -/
def step (s : State) : Host.Outcome State Fault Refusal := clockEdge s.takeSample s.nextSample

/-- s with a row of the opcode table staged where step takes its next command (log entries 7 and 11). -/
def State.withFetchWord (s : State) (nbits w : Nat) : State := s.stageTableWord nbits w

end Sys2Proof.Machine
end

