-- ==== Sys2Proof/Machine/Reference.lean ====
section
/-! DEFINITION. What the machine is held against: the document's function Decode with Record and Encode
(44_reference_function.md R200 to R203), the step function of R108 written out line by line, and the program notation of
R95. The machine uses none of it. -/

namespace Sys2Proof.Machine

/-! ### The document's function -/

/-- The value of the symbol at position i of a text, for a position that holds a digit (R10, R200). -/
def nibbleAt (t : Text) (i : Nat) : Nibble := (hexVal (t.getD i 0)).getD 0

/-- W[g]: the eight nibbles of group g, first character highest (R52, R200). -/
def groupWord (t : Text) (g : Nat) : Word :=
  nibbleAt t (8 * g) ++ nibbleAt t (8 * g + 1) ++ nibbleAt t (8 * g + 2) ++ nibbleAt t (8 * g + 3) ++
    nibbleAt t (8 * g + 4) ++ nibbleAt t (8 * g + 5) ++ nibbleAt t (8 * g + 6) ++ nibbleAt t (8 * g + 7)

/-- The ten group words of a text. -/
def groupWords (t : Text) : Vector Word 10 := Vector.ofFn fun g => groupWord t g

/-- W[31:16] and W[15:0] of four words in order: the eight address groups (R54, R202). -/
def addressOf (a b c d : Word) : Vector AddrGroup 8 :=
  #v[a.extractLsb' 16 16, a.extractLsb' 0 16, b.extractLsb' 16 16, b.extractLsb' 0 16,
    c.extractLsb' 16 16, c.extractLsb' 0 16, d.extractLsb' 16 16, d.extractLsb' 0 16]

/-- Record(W) (R202). -/
def recordOf (w : Vector Word 10) : HeaderRecord where
  version := w[0].extractLsb' 28 4
  trafficClass := w[0].extractLsb' 20 8
  flowLabel := w[0].extractLsb' 0 20
  payloadLength := w[1].extractLsb' 16 16
  nextHeader := w[1].extractLsb' 8 8
  hopLimit := w[1].extractLsb' 0 8
  sourceAddress := addressOf w[2] w[3] w[4] w[5]
  destinationAddress := addressOf w[6] w[7] w[8] w[9]

/-- The least position below min(len(t), 80) whose symbol is no digit (R200). -/
def firstNonDigit (t : Text) : Option Nat := (t.take Config.nChars).findIdx? fun c => (hexVal c).isNone

/-- Decode(t) (R200). -/
def decodeText (t : Text) : DecodeResult :=
  match firstNonDigit t with
  | some i => .error .nonHex i
  | none => if t.length < Config.nChars then .error .shortInput t.length else .ok (recordOf (groupWords t))

/-- A word as eight lower-case digits, most significant first (R203). -/
def wordDigits (w : Word) : Text :=
  [digitSymbol (w.extractLsb' 28 4), digitSymbol (w.extractLsb' 24 4), digitSymbol (w.extractLsb' 20 4),
    digitSymbol (w.extractLsb' 16 4), digitSymbol (w.extractLsb' 12 4), digitSymbol (w.extractLsb' 8 4),
    digitSymbol (w.extractLsb' 4 4), digitSymbol (w.extractLsb' 0 4)]

/-- The ten words of a record (R203). -/
def recordWords (r : HeaderRecord) : List Word :=
  [r.version ++ r.trafficClass ++ r.flowLabel, r.payloadLength ++ r.nextHeader ++ r.hopLimit,
    r.sourceAddress[0] ++ r.sourceAddress[1], r.sourceAddress[2] ++ r.sourceAddress[3],
    r.sourceAddress[4] ++ r.sourceAddress[5], r.sourceAddress[6] ++ r.sourceAddress[7],
    r.destinationAddress[0] ++ r.destinationAddress[1], r.destinationAddress[2] ++ r.destinationAddress[3],
    r.destinationAddress[4] ++ r.destinationAddress[5], r.destinationAddress[6] ++ r.destinationAddress[7]]

/-- Encode(r): the text of exactly 80 lower-case digits (R203). -/
def encodeRecord (r : HeaderRecord) : Text := (recordWords r).flatMap wordDigits

/-- A to F replaced by a to f, every other symbol kept (R204, R210). -/
def lowerCase (c : Symbol) : Symbol := if 0x41#8 ≤ c ∧ c ≤ 0x46#8 then c + 0x20#8 else c

/-! ### The step function of R108 -/

/-- The case of g in R108: what the eighth digit of group g writes. -/
def referenceCommit (s : State) (g : Nat) (w : Word) : State :=
  if g = 0 then
    { s with version := w.extractLsb' 28 4, trafficClass := w.extractLsb' 20 8, flowLabel := w.extractLsb' 0 20 }
  else if g = 1 then
    { s with payloadLength := w.extractLsb' 16 16, nextHeader := w.extractLsb' 8 8, hopLimit := w.extractLsb' 0 8 }
  else if g ≤ 5 then
    { s with
      src := (s.src.setIfInBounds (2 * (g - 2)) (w.extractLsb' 16 16)).setIfInBounds (2 * (g - 2) + 1)
        (w.extractLsb' 0 16) }
  else
    { s with
      dst := (s.dst.setIfInBounds (2 * (g - 6)) (w.extractLsb' 16 16)).setIfInBounds (2 * (g - 6) + 1)
        (w.extractLsb' 0 16) }

/-- CHAR with a digit of value d in RUN: the last part of R102 and of R108. -/
def referenceDigit (s : State) (d : Nibble) : State :=
  let w : Word := s.acc.extractLsb' 0 28 ++ d
  let shifted : State := { s with acc := w, cnt := s.cnt + 1#7 }
  let committed : State :=
    if s.cnt.extractLsb' 0 3 = 7#3 then referenceCommit shifted (s.cnt.extractLsb' 3 4).toNat w else shifted
  if s.cnt = 79#7 then { committed with status := .done } else committed

/-- Step(S, rst, cmd, data) as R108 writes it out, every read of S and every write making up S'. -/
def referenceStep (s : State) (p : InputSample) : State :=
  if p.rst then { State.reset with inputs := s.inputs }
  else if p.cmd = 3#2 then { State.reset with inputs := s.inputs }
  else if p.cmd = 0#2 then s
  else if s.status ≠ .run then s
  else if p.cmd = 2#2 then { s with status := .err, errCause := .shortInput, errPos := s.cnt }
  else
    match hexVal p.data with
    | none => { s with status := .err, errCause := .nonHex, errPos := s.cnt }
    | some d => referenceDigit s d

/-! ### Program notation -/

/-- START, END and CHAR c as samples of the ports (R95). -/
def startSample : InputSample := ⟨false, Config.cmdStart, 0⟩
def endSample : InputSample := ⟨false, Config.cmdEnd, 0⟩
def charSample (c : Symbol) : InputSample := ⟨false, Config.cmdChar, c⟩

/-- TEXT "t" (R95). -/
def textProgram (t : Text) : List InputSample := t.map charSample

/-- START, TEXT "t": a decoder call that is not told where the text ends. -/
def openProgram (t : Text) : List InputSample := startSample :: textProgram t

/-- DECODE "t": the document's decoder call on t (R95). -/
def decodeProgram (t : Text) : List InputSample := openProgram t ++ [endSample]

/-- Whether a sample is a NOP command. -/
def isNop (p : InputSample) : Bool := !p.rst && p.cmd == Config.cmdNop

/-- A command sequence without its NOP commands, which may lie anywhere (R63, R207). -/
def withoutNops (ps : List InputSample) : List InputSample := ps.filter fun p => !isNop p

end Sys2Proof.Machine
end

