-- ==== Sys2Proof/Safety.lean ====
section
/-! DEFINITION. What claims call a good state and a safe run: the invariants of R32, and the run of a command sequence. -/

namespace Sys2Proof.Machine

/-- R32 (e), first half: a field register fed by group g holds 0 as long as CNT < 8g + 8. -/
def State.uncommittedZero (s : State) : Prop :=
  (s.cnt.toNat < 8 → s.version = 0 ∧ s.trafficClass = 0 ∧ s.flowLabel = 0) ∧
  (s.cnt.toNat < 16 → s.payloadLength = 0 ∧ s.nextHeader = 0 ∧ s.hopLimit = 0) ∧
  (∀ k : Fin 8, s.cnt.toNat < 8 * (2 + k.val / 2) + 8 → s.src[k] = 0) ∧
  (∀ k : Fin 8, s.cnt.toNat < 8 * (6 + k.val / 2) + 8 → s.dst[k] = 0)

/-- R32 (f): the positions of ACC not yet filled are zero. -/
def State.unfilledZero (s : State) : Prop := s.cnt.toNat < 8 → s.acc >>> (4 * s.cnt.toNat) = 0

/-- The invariants of R32 that speak of one state: (a) by type, (b), (c), (d), (e) first half, (f). -/
def State.Inv (s : State) : Prop := s.legal = true ∧ s.uncommittedZero ∧ s.unfilledZero

/-- Whether two states hold the same registers in STATE, CNT, ERR_CAUSE and ERR_POS. -/
def sameStatus (s t : State) : Prop :=
  s.status = t.status ∧ s.cnt = t.cnt ∧ s.errCause = t.errCause ∧ s.errPos = t.errPos

/-- k steps, stopping at the first fault or refusal. -/
def runSteps : Nat → State → Result
  | 0, s => .next s
  | k + 1, s => andThen (step s) (runSteps k)

/-- The outcome of giving a command sequence to the machine in state s, one sample a step. -/
def runProgram (s : State) (ps : List InputSample) : Result := runSteps ps.length (s.withInputs ps)

end Sys2Proof.Machine
end

