-- ==== Sys2Proof/Certificates/Slice0/Obligations.lean ====
section
/-! DEFINITION. The statements for the provers. Each docstring says what the statement claims and names the rules of spec/
it follows. "A state of the block" is a state with s.legal, R32 (a) to (d). -/

open Sys2Proof Sys2Proof.Machine

/-- In every state of the block NOP answers that same state, and every command word with cmd = 0 decodes to NOP whatever
its data. (R100) -/
def Obligations.NopKeepsEveryRegister : Prop :=
  (∀ data : Symbol, decode (.command (commandWord 0#2 data)) = .ok .nop) ∧
  ∀ s : State, s.legal = true → exec .nop s = .next s

/-- Every command word with cmd = 3 decodes to START, and in every state START answers a next state in which each
register of R20 is 0 (STATE = RUN, no error); the samples still to come stay. (R101) -/
def Obligations.StartClearsEveryRegister : Prop :=
  (∀ data : Symbol, decode (.command (commandWord 3#2 data)) = .ok .start) ∧
  ∀ s : State, ∃ t, exec .start s = .next t ∧
    t.version = 0 ∧ t.trafficClass = 0 ∧ t.flowLabel = 0 ∧ t.payloadLength = 0 ∧ t.nextHeader = 0 ∧ t.hopLimit = 0 ∧
    (∀ k : Fin 8, t.src[k] = 0 ∧ t.dst[k] = 0) ∧ t.acc = 0 ∧ t.cnt = 0 ∧ t.status = .run ∧
    t.errCause = .noError ∧ t.errPos = 0 ∧ t.inputs = s.inputs

/-- Every command word with cmd = 2 decodes to END. In a state of the block with STATE = RUN, END sets STATE to ERR,
ERR_CAUSE to SHORT_INPUT and ERR_POS to CNT and changes nothing else; in DONE and ERR it changes nothing. (R103) -/
def Obligations.EndRaisesShortInputInRun : Prop :=
  (∀ data : Symbol, decode (.command (commandWord 2#2 data)) = .ok .endText) ∧
  ∀ s : State, s.legal = true →
    (s.status = .run →
      exec .endText s = .next { s with status := .err, errCause := .shortInput, errPos := s.cnt }) ∧
    (s.status ≠ .run → exec .endText s = .next s)

/-- For HEX_0, HEX_1, HEX_2, HEX_3, HEX_4, HEX_5, HEX_6, HEX_7, HEX_8, HEX_9: the command word and the symbol of its row
of R76 decode to it and to its nibble d; in a state of the block with STATE = RUN it answers the state of rule R102
(ACC = ACC[27:0] ++ d, CNT + 1, the select of the group at the eighth digit, DONE at the 80th, nothing else); in
DONE and ERR it changes nothing. (R123; R124; R125; R126; R127; R128; R129; R130; R131; R132) -/
def Obligations.DecimalDigitsShiftIn : Prop :=
  decode (.command 0x130#10) = .ok .hex0 ∧ hexVal 0x30#8 = some 0#4 ∧
  decode (.command 0x131#10) = .ok .hex1 ∧ hexVal 0x31#8 = some 1#4 ∧
  decode (.command 0x132#10) = .ok .hex2 ∧ hexVal 0x32#8 = some 2#4 ∧
  decode (.command 0x133#10) = .ok .hex3 ∧ hexVal 0x33#8 = some 3#4 ∧
  decode (.command 0x134#10) = .ok .hex4 ∧ hexVal 0x34#8 = some 4#4 ∧
  decode (.command 0x135#10) = .ok .hex5 ∧ hexVal 0x35#8 = some 5#4 ∧
  decode (.command 0x136#10) = .ok .hex6 ∧ hexVal 0x36#8 = some 6#4 ∧
  decode (.command 0x137#10) = .ok .hex7 ∧ hexVal 0x37#8 = some 7#4 ∧
  decode (.command 0x138#10) = .ok .hex8 ∧ hexVal 0x38#8 = some 8#4 ∧
  decode (.command 0x139#10) = .ok .hex9 ∧ hexVal 0x39#8 = some 9#4 ∧
  ∀ s : State, s.legal = true →
    (s.status = .run →
      exec .hex0 s = .next (referenceDigit s 0#4) ∧
      exec .hex1 s = .next (referenceDigit s 1#4) ∧
      exec .hex2 s = .next (referenceDigit s 2#4) ∧
      exec .hex3 s = .next (referenceDigit s 3#4) ∧
      exec .hex4 s = .next (referenceDigit s 4#4) ∧
      exec .hex5 s = .next (referenceDigit s 5#4) ∧
      exec .hex6 s = .next (referenceDigit s 6#4) ∧
      exec .hex7 s = .next (referenceDigit s 7#4) ∧
      exec .hex8 s = .next (referenceDigit s 8#4) ∧
      exec .hex9 s = .next (referenceDigit s 9#4)) ∧
    (s.status ≠ .run →
      exec .hex0 s = .next s ∧
      exec .hex1 s = .next s ∧
      exec .hex2 s = .next s ∧
      exec .hex3 s = .next s ∧
      exec .hex4 s = .next s ∧
      exec .hex5 s = .next s ∧
      exec .hex6 s = .next s ∧
      exec .hex7 s = .next s ∧
      exec .hex8 s = .next s ∧
      exec .hex9 s = .next s)

/-- For HEX_LA, HEX_LB, HEX_LC, HEX_LD, HEX_LE, HEX_LF: the command word and the symbol of its row of R76 decode to it
and to its nibble d; in a state of the block with STATE = RUN it answers the state of rule R102 (ACC = ACC[27:0] ++
d, CNT + 1, the select of the group at the eighth digit, DONE at the 80th, nothing else); in DONE and ERR it changes
nothing. (R133; R134; R135; R136; R137; R138) -/
def Obligations.LowerCaseDigitsShiftIn : Prop :=
  decode (.command 0x161#10) = .ok .hexLA ∧ hexVal 0x61#8 = some 10#4 ∧
  decode (.command 0x162#10) = .ok .hexLB ∧ hexVal 0x62#8 = some 11#4 ∧
  decode (.command 0x163#10) = .ok .hexLC ∧ hexVal 0x63#8 = some 12#4 ∧
  decode (.command 0x164#10) = .ok .hexLD ∧ hexVal 0x64#8 = some 13#4 ∧
  decode (.command 0x165#10) = .ok .hexLE ∧ hexVal 0x65#8 = some 14#4 ∧
  decode (.command 0x166#10) = .ok .hexLF ∧ hexVal 0x66#8 = some 15#4 ∧
  ∀ s : State, s.legal = true →
    (s.status = .run →
      exec .hexLA s = .next (referenceDigit s 10#4) ∧
      exec .hexLB s = .next (referenceDigit s 11#4) ∧
      exec .hexLC s = .next (referenceDigit s 12#4) ∧
      exec .hexLD s = .next (referenceDigit s 13#4) ∧
      exec .hexLE s = .next (referenceDigit s 14#4) ∧
      exec .hexLF s = .next (referenceDigit s 15#4)) ∧
    (s.status ≠ .run →
      exec .hexLA s = .next s ∧
      exec .hexLB s = .next s ∧
      exec .hexLC s = .next s ∧
      exec .hexLD s = .next s ∧
      exec .hexLE s = .next s ∧
      exec .hexLF s = .next s)

/-- For HEX_UA, HEX_UB, HEX_UC, HEX_UD, HEX_UE, HEX_UF: the command word and the symbol of its row of R76 decode to it
and to its nibble d; in a state of the block with STATE = RUN it answers the state of rule R102 (ACC = ACC[27:0] ++
d, CNT + 1, the select of the group at the eighth digit, DONE at the 80th, nothing else); in DONE and ERR it changes
nothing. (R139; R140; R141; R142; R143; R144) -/
def Obligations.UpperCaseDigitsShiftIn : Prop :=
  decode (.command 0x141#10) = .ok .hexUA ∧ hexVal 0x41#8 = some 10#4 ∧
  decode (.command 0x142#10) = .ok .hexUB ∧ hexVal 0x42#8 = some 11#4 ∧
  decode (.command 0x143#10) = .ok .hexUC ∧ hexVal 0x43#8 = some 12#4 ∧
  decode (.command 0x144#10) = .ok .hexUD ∧ hexVal 0x44#8 = some 13#4 ∧
  decode (.command 0x145#10) = .ok .hexUE ∧ hexVal 0x45#8 = some 14#4 ∧
  decode (.command 0x146#10) = .ok .hexUF ∧ hexVal 0x46#8 = some 15#4 ∧
  ∀ s : State, s.legal = true →
    (s.status = .run →
      exec .hexUA s = .next (referenceDigit s 10#4) ∧
      exec .hexUB s = .next (referenceDigit s 11#4) ∧
      exec .hexUC s = .next (referenceDigit s 12#4) ∧
      exec .hexUD s = .next (referenceDigit s 13#4) ∧
      exec .hexUE s = .next (referenceDigit s 14#4) ∧
      exec .hexUF s = .next (referenceDigit s 15#4)) ∧
    (s.status ≠ .run →
      exec .hexUA s = .next s ∧
      exec .hexUB s = .next s ∧
      exec .hexUC s = .next s ∧
      exec .hexUD s = .next s ∧
      exec .hexUE s = .next s ∧
      exec .hexUF s = .next s)

/-- A digit of value d given in RUN makes ACC = ACC[27:0] ++ d, as a number (16 ACC + d) mod 2^32, adds 1 to CNT, sets
DONE exactly when CNT was 79, keeps ERR_CAUSE and ERR_POS, and keeps every field register unless CNT[2:0] was 7.
(41_hex_shifter.md R121; 40_port_commands.md R102, R105, R106) -/
def Obligations.DigitMovesTheAccumulatorUp : Prop :=
  ∀ (s : State) (c : Symbol) (d : Nibble), s.legal = true → s.status = .run → hexVal c = some d →
    ∃ t, clockEdge s (charSample c) = .next t ∧
      t.acc = s.acc.extractLsb' 0 28 ++ d ∧ t.acc.toNat = (s.acc.toNat * 16 + d.toNat) % 2 ^ 32 ∧
      t.cnt.toNat = s.cnt.toNat + 1 ∧ (t.status = .done ↔ s.cnt = 79#7) ∧ t.status ≠ .err ∧
      t.errCause = s.errCause ∧ t.errPos = s.errPos ∧ t.inputs = s.inputs ∧
      (s.cnt.toNat % 8 ≠ 7 → t.fieldRegisters = s.fieldRegisters)

/-- CHAR with a symbol whose HexVal is none, in a state of the block: with STATE = RUN it sets STATE to ERR, ERR_CAUSE
to NON_HEX and ERR_POS to CNT and changes nothing else (ACC, CNT and the field registers stay); in DONE and ERR it
changes nothing. In the reset state the symbol g is such a one. (R145; R86) -/
def Obligations.NonDigitRaisesNonHexInRun : Prop :=
  (∀ s : State, s.legal = true → ∀ c : Symbol, hexVal c = none →
    (s.status = .run →
      clockEdge s (charSample c) = .next { s with status := .err, errCause := .nonHex, errPos := s.cnt }) ∧
    (s.status ≠ .run → clockEdge s (charSample c) = .next s)) ∧
  (∀ c ∈ [0x2f#8, 0x3a#8, 0x40#8, 0x47#8, 0x60#8, 0x67#8, 0x00#8, 0x20#8, 0x2b#8, 0x2d#8, 0x78#8, 0x58#8, 0x0a#8,
    0x7f#8, 0x80#8, 0xff#8], hexVal c = none) ∧
  ((List.range 256).filter fun n => (hexVal (BitVec.ofNat 8 n)).isNone).length = 234 ∧
  clockEdge State.reset (charSample 0x67#8) = .next { State.reset with status := .err, errCause := .nonHex }

/-- SEL_G0 on w writes VERSION = w[31:28], TRAFFIC_CLASS = w[27:20], FLOW_LABEL = w[19:0]; SEL_G1 on w writes
PAYLOAD_LENGTH = w[31:16], NEXT_HEADER = w[15:8], HOP_LIMIT = w[7:0]; every other register stays. SEL_G0 fires at a
digit in RUN with CNT = 7 and SEL_G1 with CNT = 15, on the word that digit completes. (R151; R152) -/
def Obligations.ScalarSelectsWriteTheirFields : Prop :=
  (∀ (s : State) (w : Word),
    exec (.selG0 w) s =
      .next { s with version := w.extractLsb' 28 4, trafficClass := w.extractLsb' 20 8, flowLabel := w.extractLsb' 0 20 } ∧
    exec (.selG1 w) s =
      .next { s with payloadLength := w.extractLsb' 16 16, nextHeader := w.extractLsb' 8 8, hopLimit := w.extractLsb' 0 8 }) ∧
  (∀ (s : State) (c : Symbol) (d : Nibble), s.legal = true → s.status = .run → hexVal c = some d →
    (s.cnt = 7#7 → clockEdge s (charSample c) =
      exec (.selG0 (s.acc.extractLsb' 0 28 ++ d)) { s with acc := s.acc.extractLsb' 0 28 ++ d, cnt := 8#7 }) ∧
    (s.cnt = 15#7 → clockEdge s (charSample c) =
      exec (.selG1 (s.acc.extractLsb' 0 28 ++ d)) { s with acc := s.acc.extractLsb' 0 28 ++ d, cnt := 16#7 }))

/-- SEL_G2 to SEL_G5 on w write their two registers of SRC, the high half w[31:16] to the even one and the low half
w[15:0] to the odd one, and nothing else; each fires at a digit in RUN at the last position of its group, on the
word that digit completes. (R170; R171; R172; R173) -/
def Obligations.SourceSelectsWriteTheirPair : Prop :=
  (∀ (s : State) (w : Word),
    exec (.selG2 w) s =
      .next { s with src := (s.src.set 0 (w.extractLsb' 16 16)).set 1 (w.extractLsb' 0 16) } ∧
    exec (.selG3 w) s =
      .next { s with src := (s.src.set 2 (w.extractLsb' 16 16)).set 3 (w.extractLsb' 0 16) } ∧
    exec (.selG4 w) s =
      .next { s with src := (s.src.set 4 (w.extractLsb' 16 16)).set 5 (w.extractLsb' 0 16) } ∧
    exec (.selG5 w) s =
      .next { s with src := (s.src.set 6 (w.extractLsb' 16 16)).set 7 (w.extractLsb' 0 16) }) ∧
  (∀ (s : State) (c : Symbol) (d : Nibble), s.legal = true → s.status = .run → hexVal c = some d →
    (s.cnt = 23#7 → clockEdge s (charSample c) =
      exec (.selG2 (s.acc.extractLsb' 0 28 ++ d)) { s with acc := s.acc.extractLsb' 0 28 ++ d, cnt := 24#7 }) ∧
    (s.cnt = 31#7 → clockEdge s (charSample c) =
      exec (.selG3 (s.acc.extractLsb' 0 28 ++ d)) { s with acc := s.acc.extractLsb' 0 28 ++ d, cnt := 32#7 }) ∧
    (s.cnt = 39#7 → clockEdge s (charSample c) =
      exec (.selG4 (s.acc.extractLsb' 0 28 ++ d)) { s with acc := s.acc.extractLsb' 0 28 ++ d, cnt := 40#7 }) ∧
    (s.cnt = 47#7 → clockEdge s (charSample c) =
      exec (.selG5 (s.acc.extractLsb' 0 28 ++ d)) { s with acc := s.acc.extractLsb' 0 28 ++ d, cnt := 48#7 }))

/-- SEL_G6 to SEL_G9 on w write their two registers of DST, the high half w[31:16] to the even one and the low half
w[15:0] to the odd one, and nothing else; each fires at a digit in RUN at the last position of its group, on the
word that digit completes (the digit at position 79 also sets DONE). (R174; R175; R176; R177) -/
def Obligations.DestinationSelectsWriteTheirPair : Prop :=
  (∀ (s : State) (w : Word),
    exec (.selG6 w) s =
      .next { s with dst := (s.dst.set 0 (w.extractLsb' 16 16)).set 1 (w.extractLsb' 0 16) } ∧
    exec (.selG7 w) s =
      .next { s with dst := (s.dst.set 2 (w.extractLsb' 16 16)).set 3 (w.extractLsb' 0 16) } ∧
    exec (.selG8 w) s =
      .next { s with dst := (s.dst.set 4 (w.extractLsb' 16 16)).set 5 (w.extractLsb' 0 16) } ∧
    exec (.selG9 w) s =
      .next { s with dst := (s.dst.set 6 (w.extractLsb' 16 16)).set 7 (w.extractLsb' 0 16) }) ∧
  (∀ (s : State) (c : Symbol) (d : Nibble), s.legal = true → s.status = .run → hexVal c = some d →
    (s.cnt = 55#7 → clockEdge s (charSample c) =
      exec (.selG6 (s.acc.extractLsb' 0 28 ++ d)) { s with acc := s.acc.extractLsb' 0 28 ++ d, cnt := 56#7 }) ∧
    (s.cnt = 63#7 → clockEdge s (charSample c) =
      exec (.selG7 (s.acc.extractLsb' 0 28 ++ d)) { s with acc := s.acc.extractLsb' 0 28 ++ d, cnt := 64#7 }) ∧
    (s.cnt = 71#7 → clockEdge s (charSample c) =
      exec (.selG8 (s.acc.extractLsb' 0 28 ++ d)) { s with acc := s.acc.extractLsb' 0 28 ++ d, cnt := 72#7 }) ∧
    (s.cnt = 79#7 → clockEdge s (charSample c) =
      exec (.selG9 (s.acc.extractLsb' 0 28 ++ d)) { s with acc := s.acc.extractLsb' 0 28 ++ d, cnt := 80#7, status := .done }))

/-- For every word w and state s, each of the six extractors writes its one register with (w >> p) & (2^wd - 1), which
is the bit slice of its field, and keeps every other register; the format letter of its group decodes to it.
(42_scalar_extractors.md R153 to R158; 30_encoding.md R78, R79, R82) -/
def Obligations.ScalarExtractorsShiftAndMask : Prop :=
  ∀ (s : State) (w : Word),
    decode (.field 0#4 .v w) = .ok (.extVersion w) ∧
    exec (.extVersion w) s = .next { s with version := ((w >>> 28) &&& 15#32).setWidth 4 } ∧
    ((w >>> 28) &&& 15#32).setWidth 4 = w.extractLsb' 28 4 ∧
    decode (.field 0#4 .t w) = .ok (.extTrafficClass w) ∧
    exec (.extTrafficClass w) s = .next { s with trafficClass := ((w >>> 20) &&& 255#32).setWidth 8 } ∧
    ((w >>> 20) &&& 255#32).setWidth 8 = w.extractLsb' 20 8 ∧
    decode (.field 0#4 .f w) = .ok (.extFlowLabel w) ∧
    exec (.extFlowLabel w) s = .next { s with flowLabel := ((w >>> 0) &&& 1048575#32).setWidth 20 } ∧
    ((w >>> 0) &&& 1048575#32).setWidth 20 = w.extractLsb' 0 20 ∧
    decode (.field 1#4 .p w) = .ok (.extPayloadLength w) ∧
    exec (.extPayloadLength w) s = .next { s with payloadLength := ((w >>> 16) &&& 65535#32).setWidth 16 } ∧
    ((w >>> 16) &&& 65535#32).setWidth 16 = w.extractLsb' 16 16 ∧
    decode (.field 1#4 .n w) = .ok (.extNextHeader w) ∧
    exec (.extNextHeader w) s = .next { s with nextHeader := ((w >>> 8) &&& 255#32).setWidth 8 } ∧
    ((w >>> 8) &&& 255#32).setWidth 8 = w.extractLsb' 8 8 ∧
    decode (.field 1#4 .h w) = .ok (.extHopLimit w) ∧
    exec (.extHopLimit w) s = .next { s with hopLimit := ((w >>> 0) &&& 255#32).setWidth 8 } ∧
    ((w >>> 0) &&& 255#32).setWidth 8 = w.extractLsb' 0 8

/-- For every word w and state s, SLICE_SRC0 to SLICE_SRC7 write SRC[0] to SRC[7] with (w >> 16) & 65535 for an even
index and w & 65535 for an odd one, keep every other register, and are what the letters h and l of groups 2 to 5
decode to. (43_address_slicers.md R178 to R185, R195; 30_encoding.md R80, R82) -/
def Obligations.SourceSlicersWriteOneGroup : Prop :=
  ∀ (s : State) (w : Word),
    decode (.field 2#4 .h w) = .ok (.sliceSrc0 w) ∧
    exec (.sliceSrc0 w) s = .next { s with src := s.src.set 0 (((w >>> 16) &&& 65535#32).setWidth 16) } ∧
    decode (.field 2#4 .l w) = .ok (.sliceSrc1 w) ∧
    exec (.sliceSrc1 w) s = .next { s with src := s.src.set 1 (((w >>> 0) &&& 65535#32).setWidth 16) } ∧
    decode (.field 3#4 .h w) = .ok (.sliceSrc2 w) ∧
    exec (.sliceSrc2 w) s = .next { s with src := s.src.set 2 (((w >>> 16) &&& 65535#32).setWidth 16) } ∧
    decode (.field 3#4 .l w) = .ok (.sliceSrc3 w) ∧
    exec (.sliceSrc3 w) s = .next { s with src := s.src.set 3 (((w >>> 0) &&& 65535#32).setWidth 16) } ∧
    decode (.field 4#4 .h w) = .ok (.sliceSrc4 w) ∧
    exec (.sliceSrc4 w) s = .next { s with src := s.src.set 4 (((w >>> 16) &&& 65535#32).setWidth 16) } ∧
    decode (.field 4#4 .l w) = .ok (.sliceSrc5 w) ∧
    exec (.sliceSrc5 w) s = .next { s with src := s.src.set 5 (((w >>> 0) &&& 65535#32).setWidth 16) } ∧
    decode (.field 5#4 .h w) = .ok (.sliceSrc6 w) ∧
    exec (.sliceSrc6 w) s = .next { s with src := s.src.set 6 (((w >>> 16) &&& 65535#32).setWidth 16) } ∧
    decode (.field 5#4 .l w) = .ok (.sliceSrc7 w) ∧
    exec (.sliceSrc7 w) s = .next { s with src := s.src.set 7 (((w >>> 0) &&& 65535#32).setWidth 16) }

/-- For every word w and state s, SLICE_DST0 to SLICE_DST7 write DST[0] to DST[7] with (w >> 16) & 65535 for an even
index and w & 65535 for an odd one, keep every other register, and are what the letters h and l of groups 6 to 9
decode to. (43_address_slicers.md R186 to R193, R195; 30_encoding.md R80, R82) -/
def Obligations.DestinationSlicersWriteOneGroup : Prop :=
  ∀ (s : State) (w : Word),
    decode (.field 6#4 .h w) = .ok (.sliceDst0 w) ∧
    exec (.sliceDst0 w) s = .next { s with dst := s.dst.set 0 (((w >>> 16) &&& 65535#32).setWidth 16) } ∧
    decode (.field 6#4 .l w) = .ok (.sliceDst1 w) ∧
    exec (.sliceDst1 w) s = .next { s with dst := s.dst.set 1 (((w >>> 0) &&& 65535#32).setWidth 16) } ∧
    decode (.field 7#4 .h w) = .ok (.sliceDst2 w) ∧
    exec (.sliceDst2 w) s = .next { s with dst := s.dst.set 2 (((w >>> 16) &&& 65535#32).setWidth 16) } ∧
    decode (.field 7#4 .l w) = .ok (.sliceDst3 w) ∧
    exec (.sliceDst3 w) s = .next { s with dst := s.dst.set 3 (((w >>> 0) &&& 65535#32).setWidth 16) } ∧
    decode (.field 8#4 .h w) = .ok (.sliceDst4 w) ∧
    exec (.sliceDst4 w) s = .next { s with dst := s.dst.set 4 (((w >>> 16) &&& 65535#32).setWidth 16) } ∧
    decode (.field 8#4 .l w) = .ok (.sliceDst5 w) ∧
    exec (.sliceDst5 w) s = .next { s with dst := s.dst.set 5 (((w >>> 0) &&& 65535#32).setWidth 16) } ∧
    decode (.field 9#4 .h w) = .ok (.sliceDst6 w) ∧
    exec (.sliceDst6 w) s = .next { s with dst := s.dst.set 6 (((w >>> 16) &&& 65535#32).setWidth 16) } ∧
    decode (.field 9#4 .l w) = .ok (.sliceDst7 w) ∧
    exec (.sliceDst7 w) s = .next { s with dst := s.dst.set 7 (((w >>> 0) &&& 65535#32).setWidth 16) }

/-- A digit of value d given in RUN: if CNT[2:0] = 7 then the key CNT[6:3] decodes to a select i, and the step is i on W
= ACC[27:0] ++ d in the state with ACC, CNT and STATE advanced; if CNT[2:0] is not 7 only ACC and CNT change.
(30_encoding.md R85; 42_scalar_extractors.md R161; 40_port_commands.md R102) -/
def Obligations.MuxArrayFiresTheSelectOfTheGroup : Prop :=
  ∀ (s : State) (c : Symbol) (d : Nibble), s.legal = true → s.status = .run → hexVal c = some d →
    (s.cnt.extractLsb' 0 3 = 7#3 →
      ∃ i, decode (.select (s.cnt.extractLsb' 3 4) (s.acc.extractLsb' 0 28 ++ d)) = .ok i ∧
        clockEdge s (charSample c) =
          exec i { s with
            acc := s.acc.extractLsb' 0 28 ++ d
            cnt := s.cnt + 1#7
            status := if s.cnt = 79#7 then .done else .run }) ∧
    (s.cnt.extractLsb' 0 3 ≠ 7#3 →
      clockEdge s (charSample c) = .next { s with acc := s.acc.extractLsb' 0 28 ++ d, cnt := s.cnt + 1#7 })

/-- In a step that is neither rst nor START, a register of group 0 changes only if CNT was 7, one of group 1 only if CNT
was 15, SRC[k] only if CNT was 8(2 + k div 2) + 7 and DST[k] only if CNT was 8(6 + k div 2) + 7; and the step was
then a digit in RUN. (42_scalar_extractors.md R161; 10_state.md R23, R24, R31; 20_memory.md R59) -/
def Obligations.FieldRegistersKeepTheirValueOtherwise : Prop :=
  ∀ (s t : State) (p : InputSample), p.rst = false → p.cmd ≠ 3#2 → clockEdge s p = .next t →
    (t.version ≠ s.version ∨ t.trafficClass ≠ s.trafficClass ∨ t.flowLabel ≠ s.flowLabel → s.cnt = 7#7) ∧
    (t.payloadLength ≠ s.payloadLength ∨ t.nextHeader ≠ s.nextHeader ∨ t.hopLimit ≠ s.hopLimit → s.cnt = 15#7) ∧
    (∀ k : Fin 8, t.src[k] ≠ s.src[k] → s.cnt.toNat = 8 * (2 + k.val / 2) + 7) ∧
    (∀ k : Fin 8, t.dst[k] ≠ s.dst[k] → s.cnt.toNat = 8 * (6 + k.val / 2) + 7) ∧
    (t.fieldRegisters ≠ s.fieldRegisters → s.status = .run ∧ p.cmd = 1#2 ∧ (hexVal p.data).isSome = true)

/-- In every state of the block and for every sample the step answers a next state whose STATE is that of the table of
R104: RUN, cleared, for rst and START; unchanged for NOP and in DONE and ERR; ERR with cause 2 for END and with
cause 1 for a non-digit in RUN; for a digit in RUN, DONE if CNT was 79 and RUN otherwise. (R104) -/
def Obligations.SequencerFollowsItsTable : Prop :=
  ∀ (s : State) (p : InputSample), s.legal = true → ∃ t, clockEdge s p = .next t ∧
    (p.rst = true ∨ p.cmd = 3#2 → t = { State.reset with inputs := s.inputs }) ∧
    (p.rst = false → p.cmd ≠ 3#2 →
      (p.cmd = 0#2 ∨ s.status ≠ .run → t.status = s.status) ∧
      (s.status = .run →
        (p.cmd = 2#2 → t.status = .err ∧ t.errCause = .shortInput) ∧
        (p.cmd = 1#2 → hexVal p.data = none → t.status = .err ∧ t.errCause = .nonHex) ∧
        (p.cmd = 1#2 → (hexVal p.data).isSome = true → s.cnt ≤ 78#7 → t.status = .run) ∧
        (p.cmd = 1#2 → (hexVal p.data).isSome = true → s.cnt = 79#7 → t.status = .done)) ∧
      (s.status = .done → s.cnt = 80#7))

/-- From every state, a state of the block or not, a step with rst = 1 answers the reset state whatever cmd and data
are, and the command START answers the same; the samples still to come stay. (R242) -/
def Obligations.ResetInputWinsOverTheCommand : Prop :=
  ∀ (s : State) (cmd : BitVec 2) (data : Symbol),
    clockEdge s ⟨true, cmd, data⟩ = .next { State.reset with inputs := s.inputs } ∧
    clockEdge s ⟨false, 3#2, data⟩ = clockEdge s ⟨true, cmd, data⟩

/-- In the reset state every register of R20 is 0, STATE is RUN and there is no error; in_ready is 1, rec_valid, err,
err_cause and err_pos are 0 and every field output is 0. (R241) -/
def Obligations.ResetStateIsAllZero : Prop :=
  State.reset.version = 0 ∧ State.reset.trafficClass = 0 ∧ State.reset.flowLabel = 0 ∧
  State.reset.payloadLength = 0 ∧ State.reset.nextHeader = 0 ∧ State.reset.hopLimit = 0 ∧
  (∀ k : Fin 8, State.reset.src[k] = 0 ∧ State.reset.dst[k] = 0) ∧ State.reset.acc = 0 ∧ State.reset.cnt = 0 ∧
  State.reset.status.code = 0 ∧ State.reset.status = .run ∧ State.reset.errCause.code = 0 ∧ State.reset.errPos = 0 ∧
  State.reset.outputs = ⟨1, 0, 0, 0, 0, 0, 0, 0, 0, 0, 0, 0, 0⟩

/-- If the next sample has rst = 0 and its word decodes to i, the step is i in the state with the sample taken; if its
word is rejected, the step is CHAR with a non-digit; if rst = 1 it is the clear; with no sample waiting it is NOP
(the model's choice, log entries 1 and 2). (40_port_commands.md R108; 10_state.md R21; 30_encoding.md R70, R73) -/
def Obligations.StepRunsTheDecodedCommand : Prop :=
  (∀ (s : State) (p : InputSample) (ps : List InputSample) (i : Instr), s.inputs = p :: ps → p.rst = false →
    decode (.command (p.cmd ++ p.data)) = .ok i → step s = exec i { s with inputs := ps }) ∧
  (∀ (s : State) (p : InputSample) (ps : List InputSample) (e : Reject), s.inputs = p :: ps → p.rst = false →
    decode (.command (p.cmd ++ p.data)) = .error e →
    p.cmd = 1#2 ∧ hexVal p.data = none ∧ step s = State.acceptNonDigit { s with inputs := ps }) ∧
  (∀ (s : State) (p : InputSample) (ps : List InputSample), s.inputs = p :: ps → p.rst = true →
    step s = .next { State.reset with inputs := ps }) ∧
  (∀ s : State, s.inputs = [] → step s = exec .nop s)

/-- The model's own (log entry 7): a 10-bit command word staged on any state is decoded and run by the next step; a
4-bit select key k of 0 to 9 is staged as the completion of group k with the word 0, and the next step is that
select on 0 in the advanced state. (30_encoding.md R70, R85; assumption log entry 7) -/
def Obligations.StagedRowIsTheNextStep : Prop :=
  (∀ (s : State) (w : Nat) (i : Instr), w < 2 ^ 10 → decodeTableWord 16 w = some i →
    step (s.withFetchWord 16 w) = exec i { s with inputs := s.inputs.tail }) ∧
  (∀ (s : State) (k : Nat) (i : Instr), k < 10 → decodeTableWord 8 k = some i →
    step (s.withFetchWord 8 k) =
      exec i { s with
        acc := 0
        cnt := BitVec.ofNat 7 (8 * k + 8)
        status := if k = 9 then .done else .run
        errCause := .noError
        errPos := 0
        inputs := s.inputs.tail })

/-- One or more words of every family of the opcode table, written out bit by bit, decode to the operation they stand
for, and three words decode to none. (30_encoding.md R71, R72, R76, R85, R78 to R82) -/
def Obligations.WordsOfTheEncodingTablesDecode : Prop :=
  decode (.command 0b0000000000#10) = .ok .nop ∧ decode (.command 0b0011111111#10) = .ok .nop ∧
  decode (.command 0b1000000000#10) = .ok .endText ∧ decode (.command 0b1101100110#10) = .ok .start ∧
  decode (.command 0b0100110101#10) = .ok .hex5 ∧ decode (.command 0b0101100101#10) = .ok .hexLE ∧
  decode (.command 0b0101000110#10) = .ok .hexUF ∧
  decode (.select 0b0011#4 0xdeadbeef#32) = .ok (.selG3 0xdeadbeef#32) ∧
  decode (.field 0b0000#4 .t 0x6abcdef0#32) = .ok (.extTrafficClass 0x6abcdef0#32) ∧
  decode (.field 0b0001#4 .h 0x12341140#32) = .ok (.extHopLimit 0x12341140#32) ∧
  decode (.field 0b0101#4 .l 0x00428329#32) = .ok (.sliceSrc7 0x00428329#32) ∧
  decode (.field 0b1001#4 .h 0xfeccddee#32) = .ok (.sliceDst6 0xfeccddee#32) ∧
  decode (.command 0b0101100111#10) = .error (.nonDigitSymbol 0x67#8) ∧
  decode (.select 0b1010#4 0#32) = .error (.reservedSelectKey 10#4) ∧
  decode (.field 0b0010#4 .v 0#32) = .error (.noSuchField 2#4 .v)

/-- For every operation with every group word, the encoding is a well-formed word and decodes to it; and whenever a word
decodes to an operation, encoding that operation gives the word back, for a command word the bits its decoding looks
at. (30_encoding.md R70 to R73, R76, R77 to R80, R85, R90) -/
def Obligations.DecodeAndEncodeAgree : Prop :=
  (∀ i : Instr, i.wellFormed = true → decode (encode i) = .ok i ∧ (encode i).wellFormed = true) ∧
  (∀ (w : CommandWord) (i : Instr), decode (.command w) = .ok i → encode i = .command (w &&& commandMask w)) ∧
  (∀ (key : GroupKey) (w : Word) (i : Instr), decode (.select key w) = .ok i → encode i = .select key w) ∧
  (∀ (key : GroupKey) (letter : Letter) (w : Word) (i : Instr), decode (.field key letter w) = .ok i →
    encode i = .field key letter w)

/-- A word decodes to an operation if and only if it is well formed: a command word unless it is CHAR with a non-digit,
a select key up to 9, a field letter of the format of its group. (30_encoding.md R73, R77 to R80, R85 to R87) -/
def Obligations.DecoderAcceptsExactlyTheWellFormed : Prop :=
  ∀ c : Code, (∃ i, decode c = .ok i) ↔ c.wellFormed = true

/-- Of the 1024 command words 256 are NOP, 256 END, 256 START, 22 CHAR with a digit and 234 CHAR with a non-digit, which
the decoder rejects. (R73) -/
def Obligations.CommandWordsAreCountedByClass : Prop :=
  ((List.range 1024).filter fun w => decodeTableWord 16 w == some .nop).length = 256 ∧
  ((List.range 1024).filter fun w => decodeTableWord 16 w == some .endText).length = 256 ∧
  ((List.range 1024).filter fun w => decodeTableWord 16 w == some .start).length = 256 ∧
  ((List.range 1024).filter fun w =>
    w / 256 == 1 && (hexVal (BitVec.ofNat 8 w)).isSome && (decodeTableWord 16 w).isSome).length = 22 ∧
  ((List.range 1024).filter fun w =>
    w / 256 == 1 && (hexVal (BitVec.ofNat 8 w)).isNone && (decodeTableWord 16 w).isNone).length = 234

/-- HexVal of 0x30 to 0x39 is the code less 0x30, of 0x41 to 0x46 the code less 0x41 plus 10, of 0x61 to 0x66 the code
less 0x61 plus 10, and none for every other symbol, which are 234. (R120) -/
def Obligations.HexValIsTheDigitValue : Prop :=
  (∀ c : Symbol,
    (0x30 ≤ c.toNat ∧ c.toNat ≤ 0x39 → ∃ d, hexVal c = some d ∧ d.toNat = c.toNat - 0x30) ∧
    (0x41 ≤ c.toNat ∧ c.toNat ≤ 0x46 → ∃ d, hexVal c = some d ∧ d.toNat = c.toNat - 0x41 + 10) ∧
    (0x61 ≤ c.toNat ∧ c.toNat ≤ 0x66 → ∃ d, hexVal c = some d ∧ d.toNat = c.toNat - 0x61 + 10) ∧
    (c.toNat < 0x30 ∨ 0x39 < c.toNat ∧ c.toNat < 0x41 ∨ 0x46 < c.toNat ∧ c.toNat < 0x61 ∨ 0x66 < c.toNat →
      hexVal c = none)) ∧
  ((List.range 256).filter fun n => (hexVal (BitVec.ofNat 8 n)).isNone).length = 234

/-- The reset state meets the invariants (a) to (f) of R32 that speak of one state. (10_state.md R32;
70_reset_and_hazards.md R241) -/
def Obligations.ResetStateMeetsTheInvariants : Prop :=
  State.reset.Inv

/-- From every state of the block (STATE, CNT, ERR_CAUSE and ERR_POS agree, R32 (b) to (d)) the step answers a next state
that is one again; and from every state that meets the other invariants of R32 too (a field register of a group not
yet complete is 0; the part of ACC not yet filled is 0) it answers one that meets them all. (10_state.md R32;
00_scope.md R19) -/
def Obligations.StepKeepsTheInvariants : Prop :=
  (∀ s : State, s.legal = true → ∃ t, step s = .next t ∧ t.legal = true) ∧
  (∀ s : State, s.Inv → ∃ t, step s = .next t ∧ t.Inv)

/-- In every state of the block and for every sample of the ports, the clock edge answers the state that R108, written
out line by line, gives: the meanings of the single operations add up to it. (R108) -/
def Obligations.StepIsTheStepOfR108 : Prop :=
  ∀ (s : State) (p : InputSample), s.legal = true → clockEdge s p = .next (referenceStep s p)

/-- From a state of the block in DONE or ERR, a command sequence of any length that holds no START and no rst leaves
every register as it was. (R107) -/
def Obligations.AfterTheEndNothingChanges : Prop :=
  ∀ (s : State) (ps : List InputSample), s.legal = true → s.status ≠ .run →
    (∀ p ∈ ps, p.rst = false ∧ p.cmd ≠ 3#2) → runProgram s ps = .next (s.withInputs [])

/-- If a step goes from a STATE that is not ERR to ERR, then STATE was RUN, the command was END (cause SHORT_INPUT) or
CHAR with a non-digit (cause NON_HEX), ERR_POS is the old CNT, and nothing else has changed; err is then 1 and
rec_valid 0. NOP and START never raise it. (R221; R224) -/
def Obligations.ParseErrorWritesThreeRegisters : Prop :=
  (∀ (s t : State) (p : InputSample), clockEdge s p = .next t → s.status ≠ .err → t.status = .err →
    p.rst = false ∧ s.status = .run ∧
      (p.cmd = 2#2 ∧ t.errCause = .shortInput ∨
        p.cmd = 1#2 ∧ hexVal p.data = none ∧ t.errCause = .nonHex) ∧
      t = { s with status := .err, errCause := t.errCause, errPos := s.cnt } ∧ s.cnt.toNat ≤ 79 ∧
      t.err = 1 ∧ t.recValid = 0) ∧
  (∀ (s : State) (c : ErrCause) (pos : Position),
    s.raiseParseError c pos = { s with status := .err, errCause := c, errPos := pos }) ∧
  (∀ (s : State) (p : InputSample), s.legal = true → s.status = .run → p.rst = false →
    p.cmd = 2#2 ∨ p.cmd = 1#2 ∧ hexVal p.data = none → ∃ t, clockEdge s p = .next t ∧ t.status = .err)

/-- If a step in RUN raises a ParseError, then after any further commands without START and rst the observation is still
that ParseError, with the same cause and the position at which it was raised. (60_exceptions.md R225 to R228) -/
def Obligations.FirstErrorIsReported : Prop :=
  ∀ (s t : State) (p : InputSample) (ps : List InputSample), s.legal = true → s.status = .run →
    clockEdge s p = .next t → t.status = .err → (∀ q ∈ ps, q.rst = false ∧ q.cmd ≠ 3#2) →
    ∃ u, runProgram t ps = .next u ∧ u.observe = .parseError t.errCause s.cnt.toNat

/-- A step raises rec_valid from 0 to 1 if and only if it is a digit in RUN with CNT = 79; in that step DST[6] and
DST[7] take the two halves of the completed word, CNT becomes 80, and no other field register changes. (20_memory.md
R58; 40_port_commands.md R106) -/
def Obligations.RecordBecomesVisibleAtOnce : Prop :=
  (∀ (s t : State) (p : InputSample), clockEdge s p = .next t → s.recValid = 0 → t.recValid = 1 →
    p.rst = false ∧ p.cmd = 1#2 ∧ s.status = .run ∧ s.cnt = 79#7 ∧
    ∃ d, hexVal p.data = some d ∧
      t = { s with
        acc := s.acc.extractLsb' 0 28 ++ d
        cnt := 80#7
        status := .done
        dst := (s.dst.set 6 ((s.acc.extractLsb' 0 28 ++ d).extractLsb' 16 16)).set 7
          ((s.acc.extractLsb' 0 28 ++ d).extractLsb' 0 16) }) ∧
  (∀ (s : State) (c : Symbol), s.legal = true → s.status = .run → s.cnt = 79#7 → (hexVal c).isSome = true →
    ∃ t, clockEdge s (charSample c) = .next t ∧ t.recValid = 1 ∧ t.cnt = 80#7 ∧ t.record = some t.fieldRegisters)

/-- From a state of the block in RUN at the beginning of a group, with any ACC, eight digits d0 to d7 leave ACC = d0 ++
d1 ++ ... ++ d7, whose value is the sum of d_j * 16^(7-j) and equals the base-16 numeral read by v <- v * 16 + d.
(R122; R147) -/
def Obligations.GroupWordIsItsEightNibbles : Prop :=
  ∀ (s : State) (c0 c1 c2 c3 c4 c5 c6 c7 : Symbol) (d0 d1 d2 d3 d4 d5 d6 d7 : Nibble),
    s.legal = true → s.status = .run → s.cnt.extractLsb' 0 3 = 0#3 →
    hexVal c0 = some d0 → hexVal c1 = some d1 → hexVal c2 = some d2 → hexVal c3 = some d3 →
    hexVal c4 = some d4 → hexVal c5 = some d5 → hexVal c6 = some d6 → hexVal c7 = some d7 →
    ∃ t u, runProgram s (textProgram [c0, c1, c2, c3, c4, c5, c6, c7]) = .next t ∧
      t.acc = d0 ++ d1 ++ d2 ++ d3 ++ d4 ++ d5 ++ d6 ++ d7 ∧
      t.acc.toNat = d0.toNat * 16 ^ 7 + d1.toNat * 16 ^ 6 + d2.toNat * 16 ^ 5 + d3.toNat * 16 ^ 4 +
        d4.toNat * 16 ^ 3 + d5.toNat * 16 ^ 2 + d6.toNat * 16 + d7.toNat ∧
      [d0, d1, d2, d3, d4, d5, d6, d7].foldl (fun v d => v * 16 + d.toNat) 0 = t.acc.toNat ∧
      runProgram s (textProgram [c0, c1, c2, c3, c4, c5, c6]) = .next u ∧
      fireSelect (s.cnt.extractLsb' 3 4) t.acc
        { u with acc := t.acc, cnt := s.cnt + 8#7, status := t.status } = .next t

/-- Take two states of the block in RUN with CNT = 0 that may differ in ACC and in every field register. After any
number of the same commands the observations are equal: running, the same record, or the same ParseError. (R250) -/
def Obligations.RecordDoesNotDependOnTheStart : Prop :=
  ∀ (s s' : State) (ps : List InputSample), s.legal = true → s'.legal = true → s.status = .run → s'.status = .run →
    s.cnt = 0#7 → s'.cnt = 0#7 →
    ∃ t t', runProgram s ps = .next t ∧ runProgram s' ps = .next t' ∧ t.observe = t'.observe ∧ sameStatus t t'

/-- Let Decode(t) = Ok(r). From every state of the block, the program START, TEXT t, END with NOP commands put in
anywhere, or any prefix of it that holds the step that carries t[79], ends with STATE = DONE, rec_valid = 1, err =
0, no error cause, ERR_POS = 0, CNT = 80 and the record r. (R207) -/
def Obligations.MachineAgreesWithDecodeOnSuccess : Prop :=
  ∀ (s : State) (t : Text) (r : HeaderRecord) (ps : List InputSample), s.legal = true → decodeText t = .ok r →
    withoutNops ps <+: decodeProgram t → 81 ≤ (withoutNops ps).length →
    ∃ u, runProgram s ps = .next u ∧ u.status = .done ∧ u.recValid = 1 ∧ u.err = 0 ∧ u.errCause = .noError ∧
      u.errPos = 0 ∧ u.cnt = 80#7 ∧ u.record = some r ∧ u.observe = .record r

/-- From every state of the block, with NOP commands anywhere: if Decode(t) = Error(cause, pos) then after START, TEXT
t, END the machine is in ERR with that cause and position; for NON_HEX from the step that carries t[pos] on; for
SHORT_INPUT without END it is still in RUN. After START, TEXT t, END it is never in RUN, and in DONE exactly when
Decode succeeds. (R208) -/
def Obligations.MachineAgreesWithDecodeOnErrors : Prop :=
  (∀ (s : State) (t : Text) (cause : ErrCause) (pos : Nat) (ps : List InputSample), s.legal = true →
    decodeText t = .error cause pos →
    (withoutNops ps = decodeProgram t ∨
      cause = .nonHex ∧ withoutNops ps <+: decodeProgram t ∧ pos + 2 ≤ (withoutNops ps).length →
      ∃ u, runProgram s ps = .next u ∧ u.status = .err ∧ u.err = 1 ∧ u.recValid = 0 ∧ u.errCause = cause ∧
        u.errPos.toNat = pos ∧ u.cnt.toNat = pos) ∧
    (cause = .shortInput → withoutNops ps = openProgram t → ∃ u, runProgram s ps = .next u ∧ u.status = .run)) ∧
  (∀ (s : State) (t : Text) (ps : List InputSample), s.legal = true → withoutNops ps = decodeProgram t →
    ∃ u, runProgram s ps = .next u ∧ u.status ≠ .run ∧ (u.status = .done ↔ ∃ r, decodeText t = .ok r))

/-- For every text of 80 digits Decode gives a record whose encoding is the text in lower case; for every record Decode
of its encoding gives the record back; two texts of 80 digits decode to the same record exactly when they differ
only in letter case. (R204) -/
def Obligations.DecodeAndEncodeTextRoundTrip : Prop :=
  (∀ t : Text, t.length = 80 → (∀ c ∈ t, (hexVal c).isSome = true) →
    ∃ r, decodeText t = .ok r ∧ encodeRecord r = t.map lowerCase ∧
      ∀ k < 40, nibbleAt (encodeRecord r) (2 * k) ++ nibbleAt (encodeRecord r) (2 * k + 1) =
        nibbleAt t (2 * k) ++ nibbleAt t (2 * k + 1)) ∧
  (∀ r : HeaderRecord, (encodeRecord r).length = 80 ∧ decodeText (encodeRecord r) = .ok r) ∧
  (∀ t t' : Text, t.length = 80 → t'.length = 80 → (∀ c ∈ t, (hexVal c).isSome = true) →
    (∀ c ∈ t', (hexVal c).isSome = true) → (decodeText t = decodeText t' ↔ t.map lowerCase = t'.map lowerCase))

/-- For a text of at least 80 symbols, anything appended is ignored by Decode, and so is anything appended to a text
with a non-digit among its first 80; a short text of digits changes its result when a digit is appended. In the
machine, in DONE and ERR, no command but START changes the state. (R209) -/
def Obligations.ExcessCharactersAreIgnored : Prop :=
  (∀ t u : Text, 80 ≤ t.length → decodeText (t ++ u) = decodeText (t.take 80)) ∧
  (∀ t u : Text, (∃ c ∈ t.take 80, hexVal c = none) → decodeText (t ++ u) = decodeText t) ∧
  (∀ t u : Text, t.length < 80 → (∀ c ∈ t, (hexVal c).isSome = true) → u ≠ [] →
    (∀ c ∈ u, (hexVal c).isSome = true) → decodeText (t ++ u) ≠ decodeText t) ∧
  (∀ (s : State) (p : InputSample), s.legal = true → s.status ≠ .run → p.rst = false → p.cmd ≠ 3#2 →
    clockEdge s p = .next s)

/-- Texts that differ only in letter case have the same Decode, error position included; and given to the machine from
any state of the block they lead to the same state after every number of steps. (R146; R210) -/
def Obligations.LetterCaseDoesNotMatter : Prop :=
  (∀ t t' : Text, t.map lowerCase = t'.map lowerCase → decodeText t = decodeText t') ∧
  (∀ (s : State) (t t' : Text) (k : Nat), t.map lowerCase = t'.map lowerCase →
    runProgram s ((textProgram t).take k) = runProgram s ((textProgram t').take k))

/-- For every text t the fields of the record of its group words are the nibbles of their text positions, first highest:
version d(0), traffic_class d(1) to d(2), flow_label d(3) to d(7), payload_length d(8) to d(11), next_header d(12)
to d(13), hop_limit d(14) to d(15), SRC[k] d(16+4k) to d(19+4k), DST[k] d(48+4k) to d(51+4k). (R60) -/
def Obligations.FieldsAreNibblesOfTheirPositions : Prop :=
  ∀ t : Text,
    (recordOf (groupWords t)).version = nibbleAt t 0 ∧
    (recordOf (groupWords t)).trafficClass = nibbleAt t 1 ++ nibbleAt t 2 ∧
    (recordOf (groupWords t)).flowLabel =
      nibbleAt t 3 ++ nibbleAt t 4 ++ nibbleAt t 5 ++ nibbleAt t 6 ++ nibbleAt t 7 ∧
    (recordOf (groupWords t)).payloadLength = nibbleAt t 8 ++ nibbleAt t 9 ++ nibbleAt t 10 ++ nibbleAt t 11 ∧
    (recordOf (groupWords t)).nextHeader = nibbleAt t 12 ++ nibbleAt t 13 ∧
    (recordOf (groupWords t)).hopLimit = nibbleAt t 14 ++ nibbleAt t 15 ∧
    ∀ k : Fin 8,
      (recordOf (groupWords t)).sourceAddress[k] =
        nibbleAt t (16 + 4 * k) ++ nibbleAt t (17 + 4 * k) ++ nibbleAt t (18 + 4 * k) ++ nibbleAt t (19 + 4 * k) ∧
      (recordOf (groupWords t)).destinationAddress[k] =
        nibbleAt t (48 + 4 * k) ++ nibbleAt t (49 + 4 * k) ++ nibbleAt t (50 + 4 * k) ++ nibbleAt t (51 + 4 * k)

/-- src_addr[127-16k : 112-16k] is SRC[k] and the same for dst_addr and DST; and for the record of ten words the packed
source address is W2 ++ W3 ++ W4 ++ W5 and the packed destination address W6 ++ W7 ++ W8 ++ W9. (R83) -/
def Obligations.AddressPortsPackFirstHighest : Prop :=
  (∀ (s : State) (k : Fin 8),
    s.outputs.srcAddr.extractLsb' (112 - 16 * k.val) 16 = s.src[k] ∧
    s.outputs.dstAddr.extractLsb' (112 - 16 * k.val) 16 = s.dst[k]) ∧
  (∀ w : Vector Word 10,
    packAddress (recordOf w).sourceAddress = w[2] ++ w[3] ++ w[4] ++ w[5] ∧
    packAddress (recordOf w).destinationAddress = w[6] ++ w[7] ++ w[8] ++ w[9])

/-- The observation is running exactly when rec_valid and err are both 0, a record exactly when rec_valid is 1, and then
that of the field registers, and a ParseError exactly when err is 1, and then with its cause and position; a record
exists exactly when it is observed. (00_scope.md R17; 10_state.md R22, R36) -/
def Obligations.HostObservesOneOfThree : Prop :=
  ∀ s : State,
    (s.observe = .running ↔ s.outputs.recValid = 0 ∧ s.outputs.err = 0) ∧
    (∀ r, s.observe = .record r ↔ s.outputs.recValid = 1 ∧ r = s.fieldRegisters) ∧
    (∀ c n, s.observe = .parseError c n ↔
      s.outputs.err = 1 ∧ c = s.errCause ∧ n = s.outputs.errPos.toNat) ∧
    (∀ r, s.record = some r ↔ s.observe = .record r)

/-- For every word W, p and w with w >= 1 and p + w <= 32, Extract(W, p, w) = W[p+w-1:p], as a number (W div 2^p) mod
2^w, at most 2^w - 1. (42_scalar_extractors.md R150, R160 (d)) -/
def Obligations.ExtractIsTheBitSlice : Prop :=
  ∀ (word : Word) (p w : Nat), 1 ≤ w → p + w ≤ 32 →
    extract word p w = word.extractLsb' p w ∧ (extract word p w).toNat = word.toNat / 2 ^ p % 2 ^ w ∧
    (extract word p w).toNat ≤ 2 ^ w - 1

/-- For each of the three formats the fields in order, put together, are the word; and for any values of the fields,
extracting from their concatenation gives them back. (42_scalar_extractors.md R160 (e)) -/
def Obligations.ExtractionLosesNoBit : Prop :=
  (∀ w : Word,
    (extract w 28 4 ++ extract w 20 8 ++ extract w 0 20 : BitVec 32) = w ∧
    (extract w 16 16 ++ extract w 8 8 ++ extract w 0 8 : BitVec 32) = w ∧
    (highHalf w ++ lowHalf w : BitVec 32) = w) ∧
  (∀ (v : BitVec 4) (c : BitVec 8) (f : BitVec 20) (w : Word), w = v ++ c ++ f →
    extract w 28 4 = v ∧ extract w 20 8 = c ∧ extract w 0 20 = f) ∧
  (∀ (pl : BitVec 16) (n h : BitVec 8) (w : Word), w = pl ++ n ++ h →
    extract w 16 16 = pl ∧ extract w 8 8 = n ∧ extract w 0 8 = h) ∧
  (∀ (a b : AddrGroup) (w : Word), w = a ++ b → highHalf w = a ∧ lowHalf w = b)

/-- In a state whose STATE, CNT, ERR_CAUSE and ERR_POS break R32 (b) to (d), NOP, END, every digit command and CHAR with
a non-digit are refused by name (which commands refuse, and that the datapath is not looked at, is the model's
choice, log entries 3 and 4); the mux array refuses a key of 10 to 15. (30_encoding.md R87;
93_implementation_defined.md U5; assumption log entries 3 and 4) -/
def Obligations.StatesThatAreNotTheBlocksAreRefused : Prop :=
  (∀ s : State, s.legal = false →
    s.acceptNonDigit = .refused .notAStateOfTheBlock ∧
    exec .nop s = .refused .notAStateOfTheBlock ∧
    exec .endText s = .refused .notAStateOfTheBlock ∧
    exec .hex0 s = .refused .notAStateOfTheBlock ∧
    exec .hex1 s = .refused .notAStateOfTheBlock ∧
    exec .hex2 s = .refused .notAStateOfTheBlock ∧
    exec .hex3 s = .refused .notAStateOfTheBlock ∧
    exec .hex4 s = .refused .notAStateOfTheBlock ∧
    exec .hex5 s = .refused .notAStateOfTheBlock ∧
    exec .hex6 s = .refused .notAStateOfTheBlock ∧
    exec .hex7 s = .refused .notAStateOfTheBlock ∧
    exec .hex8 s = .refused .notAStateOfTheBlock ∧
    exec .hex9 s = .refused .notAStateOfTheBlock ∧
    exec .hexLA s = .refused .notAStateOfTheBlock ∧
    exec .hexLB s = .refused .notAStateOfTheBlock ∧
    exec .hexLC s = .refused .notAStateOfTheBlock ∧
    exec .hexLD s = .refused .notAStateOfTheBlock ∧
    exec .hexLE s = .refused .notAStateOfTheBlock ∧
    exec .hexLF s = .refused .notAStateOfTheBlock ∧
    exec .hexUA s = .refused .notAStateOfTheBlock ∧
    exec .hexUB s = .refused .notAStateOfTheBlock ∧
    exec .hexUC s = .refused .notAStateOfTheBlock ∧
    exec .hexUD s = .refused .notAStateOfTheBlock ∧
    exec .hexUE s = .refused .notAStateOfTheBlock ∧
    exec .hexUF s = .refused .notAStateOfTheBlock) ∧
  (∀ (key : GroupKey) (w : Word) (s : State), 10 ≤ key.toNat → fireSelect key w s = .refused (.reservedSelectKey key))
end

