-- ==== Sys2Proof/Laws/State.lean ====
section
/-! SUPPORT. One lemma per field per update of State, true by rfl, so that no later proof unfolds a record update. -/

namespace Sys2Proof.Machine

variable (s : State)

@[simp] theorem State.setVersion_version (v : BitVec 4) : (s.setVersion v).version = v := rfl
@[simp] theorem State.setVersion_trafficClass (v : BitVec 4) : (s.setVersion v).trafficClass = s.trafficClass := rfl
@[simp] theorem State.setVersion_flowLabel (v : BitVec 4) : (s.setVersion v).flowLabel = s.flowLabel := rfl
@[simp] theorem State.setVersion_payloadLength (v : BitVec 4) : (s.setVersion v).payloadLength = s.payloadLength := rfl
@[simp] theorem State.setVersion_nextHeader (v : BitVec 4) : (s.setVersion v).nextHeader = s.nextHeader := rfl
@[simp] theorem State.setVersion_hopLimit (v : BitVec 4) : (s.setVersion v).hopLimit = s.hopLimit := rfl
@[simp] theorem State.setVersion_src (v : BitVec 4) : (s.setVersion v).src = s.src := rfl
@[simp] theorem State.setVersion_dst (v : BitVec 4) : (s.setVersion v).dst = s.dst := rfl
@[simp] theorem State.setVersion_acc (v : BitVec 4) : (s.setVersion v).acc = s.acc := rfl
@[simp] theorem State.setVersion_cnt (v : BitVec 4) : (s.setVersion v).cnt = s.cnt := rfl
@[simp] theorem State.setVersion_status (v : BitVec 4) : (s.setVersion v).status = s.status := rfl
@[simp] theorem State.setVersion_errCause (v : BitVec 4) : (s.setVersion v).errCause = s.errCause := rfl
@[simp] theorem State.setVersion_errPos (v : BitVec 4) : (s.setVersion v).errPos = s.errPos := rfl
@[simp] theorem State.setVersion_inputs (v : BitVec 4) : (s.setVersion v).inputs = s.inputs := rfl

@[simp] theorem State.setTrafficClass_version (v : BitVec 8) : (s.setTrafficClass v).version = s.version := rfl
@[simp] theorem State.setTrafficClass_trafficClass (v : BitVec 8) : (s.setTrafficClass v).trafficClass = v := rfl
@[simp] theorem State.setTrafficClass_flowLabel (v : BitVec 8) : (s.setTrafficClass v).flowLabel = s.flowLabel := rfl
@[simp] theorem State.setTrafficClass_payloadLength (v : BitVec 8) : (s.setTrafficClass v).payloadLength = s.payloadLength := rfl
@[simp] theorem State.setTrafficClass_nextHeader (v : BitVec 8) : (s.setTrafficClass v).nextHeader = s.nextHeader := rfl
@[simp] theorem State.setTrafficClass_hopLimit (v : BitVec 8) : (s.setTrafficClass v).hopLimit = s.hopLimit := rfl
@[simp] theorem State.setTrafficClass_src (v : BitVec 8) : (s.setTrafficClass v).src = s.src := rfl
@[simp] theorem State.setTrafficClass_dst (v : BitVec 8) : (s.setTrafficClass v).dst = s.dst := rfl
@[simp] theorem State.setTrafficClass_acc (v : BitVec 8) : (s.setTrafficClass v).acc = s.acc := rfl
@[simp] theorem State.setTrafficClass_cnt (v : BitVec 8) : (s.setTrafficClass v).cnt = s.cnt := rfl
@[simp] theorem State.setTrafficClass_status (v : BitVec 8) : (s.setTrafficClass v).status = s.status := rfl
@[simp] theorem State.setTrafficClass_errCause (v : BitVec 8) : (s.setTrafficClass v).errCause = s.errCause := rfl
@[simp] theorem State.setTrafficClass_errPos (v : BitVec 8) : (s.setTrafficClass v).errPos = s.errPos := rfl
@[simp] theorem State.setTrafficClass_inputs (v : BitVec 8) : (s.setTrafficClass v).inputs = s.inputs := rfl

@[simp] theorem State.setFlowLabel_version (v : BitVec 20) : (s.setFlowLabel v).version = s.version := rfl
@[simp] theorem State.setFlowLabel_trafficClass (v : BitVec 20) : (s.setFlowLabel v).trafficClass = s.trafficClass := rfl
@[simp] theorem State.setFlowLabel_flowLabel (v : BitVec 20) : (s.setFlowLabel v).flowLabel = v := rfl
@[simp] theorem State.setFlowLabel_payloadLength (v : BitVec 20) : (s.setFlowLabel v).payloadLength = s.payloadLength := rfl
@[simp] theorem State.setFlowLabel_nextHeader (v : BitVec 20) : (s.setFlowLabel v).nextHeader = s.nextHeader := rfl
@[simp] theorem State.setFlowLabel_hopLimit (v : BitVec 20) : (s.setFlowLabel v).hopLimit = s.hopLimit := rfl
@[simp] theorem State.setFlowLabel_src (v : BitVec 20) : (s.setFlowLabel v).src = s.src := rfl
@[simp] theorem State.setFlowLabel_dst (v : BitVec 20) : (s.setFlowLabel v).dst = s.dst := rfl
@[simp] theorem State.setFlowLabel_acc (v : BitVec 20) : (s.setFlowLabel v).acc = s.acc := rfl
@[simp] theorem State.setFlowLabel_cnt (v : BitVec 20) : (s.setFlowLabel v).cnt = s.cnt := rfl
@[simp] theorem State.setFlowLabel_status (v : BitVec 20) : (s.setFlowLabel v).status = s.status := rfl
@[simp] theorem State.setFlowLabel_errCause (v : BitVec 20) : (s.setFlowLabel v).errCause = s.errCause := rfl
@[simp] theorem State.setFlowLabel_errPos (v : BitVec 20) : (s.setFlowLabel v).errPos = s.errPos := rfl
@[simp] theorem State.setFlowLabel_inputs (v : BitVec 20) : (s.setFlowLabel v).inputs = s.inputs := rfl

@[simp] theorem State.setPayloadLength_version (v : BitVec 16) : (s.setPayloadLength v).version = s.version := rfl
@[simp] theorem State.setPayloadLength_trafficClass (v : BitVec 16) : (s.setPayloadLength v).trafficClass = s.trafficClass := rfl
@[simp] theorem State.setPayloadLength_flowLabel (v : BitVec 16) : (s.setPayloadLength v).flowLabel = s.flowLabel := rfl
@[simp] theorem State.setPayloadLength_payloadLength (v : BitVec 16) : (s.setPayloadLength v).payloadLength = v := rfl
@[simp] theorem State.setPayloadLength_nextHeader (v : BitVec 16) : (s.setPayloadLength v).nextHeader = s.nextHeader := rfl
@[simp] theorem State.setPayloadLength_hopLimit (v : BitVec 16) : (s.setPayloadLength v).hopLimit = s.hopLimit := rfl
@[simp] theorem State.setPayloadLength_src (v : BitVec 16) : (s.setPayloadLength v).src = s.src := rfl
@[simp] theorem State.setPayloadLength_dst (v : BitVec 16) : (s.setPayloadLength v).dst = s.dst := rfl
@[simp] theorem State.setPayloadLength_acc (v : BitVec 16) : (s.setPayloadLength v).acc = s.acc := rfl
@[simp] theorem State.setPayloadLength_cnt (v : BitVec 16) : (s.setPayloadLength v).cnt = s.cnt := rfl
@[simp] theorem State.setPayloadLength_status (v : BitVec 16) : (s.setPayloadLength v).status = s.status := rfl
@[simp] theorem State.setPayloadLength_errCause (v : BitVec 16) : (s.setPayloadLength v).errCause = s.errCause := rfl
@[simp] theorem State.setPayloadLength_errPos (v : BitVec 16) : (s.setPayloadLength v).errPos = s.errPos := rfl
@[simp] theorem State.setPayloadLength_inputs (v : BitVec 16) : (s.setPayloadLength v).inputs = s.inputs := rfl

@[simp] theorem State.setNextHeader_version (v : BitVec 8) : (s.setNextHeader v).version = s.version := rfl
@[simp] theorem State.setNextHeader_trafficClass (v : BitVec 8) : (s.setNextHeader v).trafficClass = s.trafficClass := rfl
@[simp] theorem State.setNextHeader_flowLabel (v : BitVec 8) : (s.setNextHeader v).flowLabel = s.flowLabel := rfl
@[simp] theorem State.setNextHeader_payloadLength (v : BitVec 8) : (s.setNextHeader v).payloadLength = s.payloadLength := rfl
@[simp] theorem State.setNextHeader_nextHeader (v : BitVec 8) : (s.setNextHeader v).nextHeader = v := rfl
@[simp] theorem State.setNextHeader_hopLimit (v : BitVec 8) : (s.setNextHeader v).hopLimit = s.hopLimit := rfl
@[simp] theorem State.setNextHeader_src (v : BitVec 8) : (s.setNextHeader v).src = s.src := rfl
@[simp] theorem State.setNextHeader_dst (v : BitVec 8) : (s.setNextHeader v).dst = s.dst := rfl
@[simp] theorem State.setNextHeader_acc (v : BitVec 8) : (s.setNextHeader v).acc = s.acc := rfl
@[simp] theorem State.setNextHeader_cnt (v : BitVec 8) : (s.setNextHeader v).cnt = s.cnt := rfl
@[simp] theorem State.setNextHeader_status (v : BitVec 8) : (s.setNextHeader v).status = s.status := rfl
@[simp] theorem State.setNextHeader_errCause (v : BitVec 8) : (s.setNextHeader v).errCause = s.errCause := rfl
@[simp] theorem State.setNextHeader_errPos (v : BitVec 8) : (s.setNextHeader v).errPos = s.errPos := rfl
@[simp] theorem State.setNextHeader_inputs (v : BitVec 8) : (s.setNextHeader v).inputs = s.inputs := rfl

@[simp] theorem State.setHopLimit_version (v : BitVec 8) : (s.setHopLimit v).version = s.version := rfl
@[simp] theorem State.setHopLimit_trafficClass (v : BitVec 8) : (s.setHopLimit v).trafficClass = s.trafficClass := rfl
@[simp] theorem State.setHopLimit_flowLabel (v : BitVec 8) : (s.setHopLimit v).flowLabel = s.flowLabel := rfl
@[simp] theorem State.setHopLimit_payloadLength (v : BitVec 8) : (s.setHopLimit v).payloadLength = s.payloadLength := rfl
@[simp] theorem State.setHopLimit_nextHeader (v : BitVec 8) : (s.setHopLimit v).nextHeader = s.nextHeader := rfl
@[simp] theorem State.setHopLimit_hopLimit (v : BitVec 8) : (s.setHopLimit v).hopLimit = v := rfl
@[simp] theorem State.setHopLimit_src (v : BitVec 8) : (s.setHopLimit v).src = s.src := rfl
@[simp] theorem State.setHopLimit_dst (v : BitVec 8) : (s.setHopLimit v).dst = s.dst := rfl
@[simp] theorem State.setHopLimit_acc (v : BitVec 8) : (s.setHopLimit v).acc = s.acc := rfl
@[simp] theorem State.setHopLimit_cnt (v : BitVec 8) : (s.setHopLimit v).cnt = s.cnt := rfl
@[simp] theorem State.setHopLimit_status (v : BitVec 8) : (s.setHopLimit v).status = s.status := rfl
@[simp] theorem State.setHopLimit_errCause (v : BitVec 8) : (s.setHopLimit v).errCause = s.errCause := rfl
@[simp] theorem State.setHopLimit_errPos (v : BitVec 8) : (s.setHopLimit v).errPos = s.errPos := rfl
@[simp] theorem State.setHopLimit_inputs (v : BitVec 8) : (s.setHopLimit v).inputs = s.inputs := rfl

@[simp] theorem State.setSrc_version (k : Fin 8) (v : AddrGroup) : (s.setSrc k v).version = s.version := rfl
@[simp] theorem State.setSrc_trafficClass (k : Fin 8) (v : AddrGroup) : (s.setSrc k v).trafficClass = s.trafficClass := rfl
@[simp] theorem State.setSrc_flowLabel (k : Fin 8) (v : AddrGroup) : (s.setSrc k v).flowLabel = s.flowLabel := rfl
@[simp] theorem State.setSrc_payloadLength (k : Fin 8) (v : AddrGroup) : (s.setSrc k v).payloadLength = s.payloadLength := rfl
@[simp] theorem State.setSrc_nextHeader (k : Fin 8) (v : AddrGroup) : (s.setSrc k v).nextHeader = s.nextHeader := rfl
@[simp] theorem State.setSrc_hopLimit (k : Fin 8) (v : AddrGroup) : (s.setSrc k v).hopLimit = s.hopLimit := rfl
@[simp] theorem State.setSrc_src (k : Fin 8) (v : AddrGroup) : (s.setSrc k v).src = s.src.set k v := rfl
@[simp] theorem State.setSrc_dst (k : Fin 8) (v : AddrGroup) : (s.setSrc k v).dst = s.dst := rfl
@[simp] theorem State.setSrc_acc (k : Fin 8) (v : AddrGroup) : (s.setSrc k v).acc = s.acc := rfl
@[simp] theorem State.setSrc_cnt (k : Fin 8) (v : AddrGroup) : (s.setSrc k v).cnt = s.cnt := rfl
@[simp] theorem State.setSrc_status (k : Fin 8) (v : AddrGroup) : (s.setSrc k v).status = s.status := rfl
@[simp] theorem State.setSrc_errCause (k : Fin 8) (v : AddrGroup) : (s.setSrc k v).errCause = s.errCause := rfl
@[simp] theorem State.setSrc_errPos (k : Fin 8) (v : AddrGroup) : (s.setSrc k v).errPos = s.errPos := rfl
@[simp] theorem State.setSrc_inputs (k : Fin 8) (v : AddrGroup) : (s.setSrc k v).inputs = s.inputs := rfl

@[simp] theorem State.setDst_version (k : Fin 8) (v : AddrGroup) : (s.setDst k v).version = s.version := rfl
@[simp] theorem State.setDst_trafficClass (k : Fin 8) (v : AddrGroup) : (s.setDst k v).trafficClass = s.trafficClass := rfl
@[simp] theorem State.setDst_flowLabel (k : Fin 8) (v : AddrGroup) : (s.setDst k v).flowLabel = s.flowLabel := rfl
@[simp] theorem State.setDst_payloadLength (k : Fin 8) (v : AddrGroup) : (s.setDst k v).payloadLength = s.payloadLength := rfl
@[simp] theorem State.setDst_nextHeader (k : Fin 8) (v : AddrGroup) : (s.setDst k v).nextHeader = s.nextHeader := rfl
@[simp] theorem State.setDst_hopLimit (k : Fin 8) (v : AddrGroup) : (s.setDst k v).hopLimit = s.hopLimit := rfl
@[simp] theorem State.setDst_src (k : Fin 8) (v : AddrGroup) : (s.setDst k v).src = s.src := rfl
@[simp] theorem State.setDst_dst (k : Fin 8) (v : AddrGroup) : (s.setDst k v).dst = s.dst.set k v := rfl
@[simp] theorem State.setDst_acc (k : Fin 8) (v : AddrGroup) : (s.setDst k v).acc = s.acc := rfl
@[simp] theorem State.setDst_cnt (k : Fin 8) (v : AddrGroup) : (s.setDst k v).cnt = s.cnt := rfl
@[simp] theorem State.setDst_status (k : Fin 8) (v : AddrGroup) : (s.setDst k v).status = s.status := rfl
@[simp] theorem State.setDst_errCause (k : Fin 8) (v : AddrGroup) : (s.setDst k v).errCause = s.errCause := rfl
@[simp] theorem State.setDst_errPos (k : Fin 8) (v : AddrGroup) : (s.setDst k v).errPos = s.errPos := rfl
@[simp] theorem State.setDst_inputs (k : Fin 8) (v : AddrGroup) : (s.setDst k v).inputs = s.inputs := rfl

@[simp] theorem State.advance_version (w : Word) : (s.advance w).version = s.version := rfl
@[simp] theorem State.advance_trafficClass (w : Word) : (s.advance w).trafficClass = s.trafficClass := rfl
@[simp] theorem State.advance_flowLabel (w : Word) : (s.advance w).flowLabel = s.flowLabel := rfl
@[simp] theorem State.advance_payloadLength (w : Word) : (s.advance w).payloadLength = s.payloadLength := rfl
@[simp] theorem State.advance_nextHeader (w : Word) : (s.advance w).nextHeader = s.nextHeader := rfl
@[simp] theorem State.advance_hopLimit (w : Word) : (s.advance w).hopLimit = s.hopLimit := rfl
@[simp] theorem State.advance_src (w : Word) : (s.advance w).src = s.src := rfl
@[simp] theorem State.advance_dst (w : Word) : (s.advance w).dst = s.dst := rfl
@[simp] theorem State.advance_acc (w : Word) : (s.advance w).acc = w := rfl
@[simp] theorem State.advance_cnt (w : Word) : (s.advance w).cnt = s.cnt + 1#7 := rfl
@[simp] theorem State.advance_status (w : Word) : (s.advance w).status = statusAfterDigit s.cnt s.status := rfl
@[simp] theorem State.advance_errCause (w : Word) : (s.advance w).errCause = s.errCause := rfl
@[simp] theorem State.advance_errPos (w : Word) : (s.advance w).errPos = s.errPos := rfl
@[simp] theorem State.advance_inputs (w : Word) : (s.advance w).inputs = s.inputs := rfl

@[simp] theorem State.raiseParseError_version (c : ErrCause) (p : Position) : (s.raiseParseError c p).version = s.version := rfl
@[simp] theorem State.raiseParseError_trafficClass (c : ErrCause) (p : Position) : (s.raiseParseError c p).trafficClass = s.trafficClass := rfl
@[simp] theorem State.raiseParseError_flowLabel (c : ErrCause) (p : Position) : (s.raiseParseError c p).flowLabel = s.flowLabel := rfl
@[simp] theorem State.raiseParseError_payloadLength (c : ErrCause) (p : Position) : (s.raiseParseError c p).payloadLength = s.payloadLength := rfl
@[simp] theorem State.raiseParseError_nextHeader (c : ErrCause) (p : Position) : (s.raiseParseError c p).nextHeader = s.nextHeader := rfl
@[simp] theorem State.raiseParseError_hopLimit (c : ErrCause) (p : Position) : (s.raiseParseError c p).hopLimit = s.hopLimit := rfl
@[simp] theorem State.raiseParseError_src (c : ErrCause) (p : Position) : (s.raiseParseError c p).src = s.src := rfl
@[simp] theorem State.raiseParseError_dst (c : ErrCause) (p : Position) : (s.raiseParseError c p).dst = s.dst := rfl
@[simp] theorem State.raiseParseError_acc (c : ErrCause) (p : Position) : (s.raiseParseError c p).acc = s.acc := rfl
@[simp] theorem State.raiseParseError_cnt (c : ErrCause) (p : Position) : (s.raiseParseError c p).cnt = s.cnt := rfl
@[simp] theorem State.raiseParseError_status (c : ErrCause) (p : Position) : (s.raiseParseError c p).status = .err := rfl
@[simp] theorem State.raiseParseError_errCause (c : ErrCause) (p : Position) : (s.raiseParseError c p).errCause = c := rfl
@[simp] theorem State.raiseParseError_errPos (c : ErrCause) (p : Position) : (s.raiseParseError c p).errPos = p := rfl
@[simp] theorem State.raiseParseError_inputs (c : ErrCause) (p : Position) : (s.raiseParseError c p).inputs = s.inputs := rfl

@[simp] theorem State.withInputs_version (ps : List InputSample) : (s.withInputs ps).version = s.version := rfl
@[simp] theorem State.withInputs_trafficClass (ps : List InputSample) : (s.withInputs ps).trafficClass = s.trafficClass := rfl
@[simp] theorem State.withInputs_flowLabel (ps : List InputSample) : (s.withInputs ps).flowLabel = s.flowLabel := rfl
@[simp] theorem State.withInputs_payloadLength (ps : List InputSample) : (s.withInputs ps).payloadLength = s.payloadLength := rfl
@[simp] theorem State.withInputs_nextHeader (ps : List InputSample) : (s.withInputs ps).nextHeader = s.nextHeader := rfl
@[simp] theorem State.withInputs_hopLimit (ps : List InputSample) : (s.withInputs ps).hopLimit = s.hopLimit := rfl
@[simp] theorem State.withInputs_src (ps : List InputSample) : (s.withInputs ps).src = s.src := rfl
@[simp] theorem State.withInputs_dst (ps : List InputSample) : (s.withInputs ps).dst = s.dst := rfl
@[simp] theorem State.withInputs_acc (ps : List InputSample) : (s.withInputs ps).acc = s.acc := rfl
@[simp] theorem State.withInputs_cnt (ps : List InputSample) : (s.withInputs ps).cnt = s.cnt := rfl
@[simp] theorem State.withInputs_status (ps : List InputSample) : (s.withInputs ps).status = s.status := rfl
@[simp] theorem State.withInputs_errCause (ps : List InputSample) : (s.withInputs ps).errCause = s.errCause := rfl
@[simp] theorem State.withInputs_errPos (ps : List InputSample) : (s.withInputs ps).errPos = s.errPos := rfl
@[simp] theorem State.withInputs_inputs (ps : List InputSample) : (s.withInputs ps).inputs = ps := rfl

@[simp] theorem State.takeSample_version : (s.takeSample).version = s.version := rfl
@[simp] theorem State.takeSample_trafficClass : (s.takeSample).trafficClass = s.trafficClass := rfl
@[simp] theorem State.takeSample_flowLabel : (s.takeSample).flowLabel = s.flowLabel := rfl
@[simp] theorem State.takeSample_payloadLength : (s.takeSample).payloadLength = s.payloadLength := rfl
@[simp] theorem State.takeSample_nextHeader : (s.takeSample).nextHeader = s.nextHeader := rfl
@[simp] theorem State.takeSample_hopLimit : (s.takeSample).hopLimit = s.hopLimit := rfl
@[simp] theorem State.takeSample_src : (s.takeSample).src = s.src := rfl
@[simp] theorem State.takeSample_dst : (s.takeSample).dst = s.dst := rfl
@[simp] theorem State.takeSample_acc : (s.takeSample).acc = s.acc := rfl
@[simp] theorem State.takeSample_cnt : (s.takeSample).cnt = s.cnt := rfl
@[simp] theorem State.takeSample_status : (s.takeSample).status = s.status := rfl
@[simp] theorem State.takeSample_errCause : (s.takeSample).errCause = s.errCause := rfl
@[simp] theorem State.takeSample_errPos : (s.takeSample).errPos = s.errPos := rfl
@[simp] theorem State.takeSample_inputs : (s.takeSample).inputs = s.inputs.tail := rfl

@[simp] theorem State.clear_version : (s.clear).version = 0 := rfl
@[simp] theorem State.clear_trafficClass : (s.clear).trafficClass = 0 := rfl
@[simp] theorem State.clear_flowLabel : (s.clear).flowLabel = 0 := rfl
@[simp] theorem State.clear_payloadLength : (s.clear).payloadLength = 0 := rfl
@[simp] theorem State.clear_nextHeader : (s.clear).nextHeader = 0 := rfl
@[simp] theorem State.clear_hopLimit : (s.clear).hopLimit = 0 := rfl
@[simp] theorem State.clear_src : (s.clear).src = Vector.replicate 8 0 := rfl
@[simp] theorem State.clear_dst : (s.clear).dst = Vector.replicate 8 0 := rfl
@[simp] theorem State.clear_acc : (s.clear).acc = 0 := rfl
@[simp] theorem State.clear_cnt : (s.clear).cnt = 0 := rfl
@[simp] theorem State.clear_status : (s.clear).status = .run := rfl
@[simp] theorem State.clear_errCause : (s.clear).errCause = .noError := rfl
@[simp] theorem State.clear_errPos : (s.clear).errPos = 0 := rfl
@[simp] theorem State.clear_inputs : (s.clear).inputs = s.inputs := rfl

@[simp] theorem State.withInputs_self : s.withInputs s.inputs = s := rfl
@[simp] theorem State.withInputs_withInputs (ps qs : List InputSample) :
    (s.withInputs ps).withInputs qs = s.withInputs qs := rfl
@[simp] theorem State.nextSample_cons (p : InputSample) (ps : List InputSample) :
    (s.withInputs (p :: ps)).nextSample = p := rfl
@[simp] theorem State.nextSample_nil : (s.withInputs []).nextSample = idleSample := rfl
@[simp] theorem State.takeSample_withInputs (ps : List InputSample) :
    (s.withInputs ps).takeSample = s.withInputs ps.tail := rfl

end Sys2Proof.Machine
end

