-- ==== Sys2Proof/Laws/Ops.lean ====
section
/-! SUPPORT. What each shared operation can do, said once: the guards, the extraction, the mux array, the digit command and
the clock edge. Later proofs cite these and do not unfold the operations. -/

namespace Sys2Proof.Machine

/-! ### Guards -/

@[simp] theorem andThen_next (s : State) (f : State → Result) : andThen (.next s) f = f s := rfl

theorem State.whenLegal_of_legal {s : State} (h : s.legal = true) (o : Result) : s.whenLegal o = o := by
  simp [State.whenLegal, h]

theorem State.whenLegal_of_not_legal {s : State} (h : s.legal = false) (o : Result) :
    s.whenLegal o = .refused .notAStateOfTheBlock := by
  simp [State.whenLegal, h]

theorem State.whenRunning_of_run {s : State} (h : s.legal = true) (hr : s.status = .run) (o : Result) :
    s.whenRunning o = o := by
  simp [State.whenRunning, State.whenLegal, h, hr]

theorem State.whenRunning_of_not_run {s : State} (h : s.legal = true) (hr : s.status ≠ .run) (o : Result) :
    s.whenRunning o = .next s := by
  simp [State.whenRunning, State.whenLegal, h, hr]

theorem State.whenRunning_of_not_legal {s : State} (h : s.legal = false) (o : Result) :
    s.whenRunning o = .refused .notAStateOfTheBlock :=
  State.whenLegal_of_not_legal h _

/-- Everything a command that works only in RUN can answer with a next state. -/
theorem State.whenRunning_next {s t : State} {o : Result} (h : s.whenRunning o = .next t) :
    s.legal = true ∧ (s.status = .run ∧ o = .next t ∨ s.status ≠ .run ∧ t = s) := by
  unfold State.whenRunning State.whenLegal at h
  split at h
  · rename_i hl
    refine ⟨hl, ?_⟩
    split at h
    · exact .inl ⟨‹_›, h⟩
    · exact .inr ⟨‹_›, by injection h with h; exact h.symm⟩
  · cases h

/-! ### The states of the block -/

theorem State.legal_run {s : State} (h : s.legal = true) (hr : s.status = .run) :
    s.cnt ≤ 79#7 ∧ s.errCause = .noError ∧ s.errPos = 0#7 := by
  unfold State.legal at h
  rw [hr] at h
  simpa [and_assoc] using h

theorem State.legal_done {s : State} (h : s.legal = true) (hr : s.status = .done) :
    s.cnt = 80#7 ∧ s.errCause = .noError ∧ s.errPos = 0#7 := by
  unfold State.legal at h
  rw [hr] at h
  simpa [and_assoc] using h

theorem State.legal_err {s : State} (h : s.legal = true) (hr : s.status = .err) :
    s.cnt ≤ 79#7 ∧ s.errCause ≠ .noError ∧ s.errPos = s.cnt := by
  unfold State.legal at h
  rw [hr] at h
  simpa [and_assoc] using h

@[simp] theorem State.legal_withInputs (s : State) (ps : List InputSample) : (s.withInputs ps).legal = s.legal := rfl

@[simp] theorem State.legal_takeSample (s : State) : s.takeSample.legal = s.legal := rfl

theorem State.legal_clear (s : State) : s.clear.legal = true := rfl

theorem State.legal_raiseParseError {s : State} (h : s.legal = true) (hr : s.status = .run) {c : ErrCause}
    (hc : c ≠ .noError) : (s.raiseParseError c s.cnt).legal = true := by
  obtain ⟨hcnt, -, -⟩ := s.legal_run h hr
  simp [State.legal, hcnt, hc]

theorem State.legal_advance {s : State} (h : s.legal = true) (hr : s.status = .run) (w : Word) :
    (s.advance w).legal = true := by
  obtain ⟨hcnt, hc, hp⟩ := s.legal_run h hr
  by_cases h79 : s.cnt = 79#7
  · simp [State.legal, statusAfterDigit, h79, hc, hp]
  · have : s.cnt + 1#7 ≤ 79#7 := by bv_omega
    simp [State.legal, statusAfterDigit, h79, hc, hp, hr, this]

/-! ### Extraction -/

theorem getLsbD_fieldMask (w i : Nat) : (fieldMask w).getLsbD i = (decide (i < 32) && decide (i < w)) := by
  rw [fieldMask, BitVec.getLsbD_ofNat, Nat.testBit_two_pow_sub_one]

/-- Shift and mask is the bit slice W[p+w-1:p] (R150). -/
theorem extract_eq_slice (word : Word) (p w : Nat) (h : p + w ≤ 32) : extract word p w = word.extractLsb' p w := by
  apply BitVec.eq_of_getLsbD_eq
  intro i hi
  have : i < 32 := by omega
  simp [extract, getLsbD_fieldMask, hi, this]

theorem highHalf_eq_slice (word : Word) : highHalf word = word.extractLsb' 16 16 := extract_eq_slice _ _ _ (by decide)

theorem lowHalf_eq_slice (word : Word) : lowHalf word = word.extractLsb' 0 16 := extract_eq_slice _ _ _ (by decide)

/-! ### The mux array -/

theorem setIfInBounds_eq_set {α : Type} {n : Nat} (v : Vector α n) (i : Nat) (x : α) (h : i < n) :
    v.setIfInBounds i x = v.set i x h := by
  ext j hj
  simp [Vector.getElem_set, Vector.getElem_setIfInBounds]


/-- What the select of each group writes (R108, the case of g). -/
theorem fireSelect_eq (key : GroupKey) (w : Word) (s : State) (h : key ≤ 9#4) :
    fireSelect key w s = .next (referenceCommit s key.toNat w) := by
  have hk : key = 0#4 ∨ key = 1#4 ∨ key = 2#4 ∨ key = 3#4 ∨ key = 4#4 ∨ key = 5#4 ∨ key = 6#4 ∨ key = 7#4 ∨
      key = 8#4 ∨ key = 9#4 := by bv_omega
  rcases hk with rfl | rfl | rfl | rfl | rfl | rfl | rfl | rfl | rfl | rfl <;>
    simp [fireSelect, referenceCommit, execSelG0, execSelG1, execSelG2, execSelG3, execSelG4, execSelG5, execSelG6,
      execSelG7, execSelG8, execSelG9, execExtVersion, execExtTrafficClass, execExtFlowLabel, execExtPayloadLength,
      execExtNextHeader, execExtHopLimit, execSliceSrc0, execSliceSrc1, execSliceSrc2, execSliceSrc3, execSliceSrc4,
      execSliceSrc5, execSliceSrc6, execSliceSrc7, execSliceDst0, execSliceDst1, execSliceDst2, execSliceDst3,
      execSliceDst4, execSliceDst5, execSliceDst6, execSliceDst7, State.setVersion, State.setTrafficClass,
      State.setFlowLabel, State.setPayloadLength, State.setNextHeader, State.setHopLimit, State.setSrc, State.setDst,
      extract_eq_slice, highHalf_eq_slice, lowHalf_eq_slice, setIfInBounds_eq_set]

/-- The mux array fires the select that the decoder reads from the key (R85). -/
theorem fireSelect_eq_exec {key : GroupKey} {w : Word} {i : Instr} (h : decode (.select key w) = .ok i) (s : State) :
    fireSelect key w s = exec i s := by
  simp only [decode, decodeSelect] at h
  unfold fireSelect
  split at h <;> simp_all <;> subst h <;> rfl

end Sys2Proof.Machine
end

