-- ==== Sys2Proof/Laws/PerInstr.lean ====
section
/-! SUPPORT. The lemmas that are made per instruction, one per constructor of Instr. Family RoundTrip: the word the encoder
gives an operation is decoded to that operation, with its group word. -/

namespace Sys2Proof.Laws.RoundTrip

/-- Decoding the encoding of an operation gives it back. -/
def Statement (i : Instr) : Prop := decode (encode i) = .ok i

theorem nop : Statement .nop := rfl
theorem endText : Statement .endText := rfl
theorem start : Statement .start := rfl
theorem hex0 : Statement .hex0 := rfl
theorem hex1 : Statement .hex1 := rfl
theorem hex2 : Statement .hex2 := rfl
theorem hex3 : Statement .hex3 := rfl
theorem hex4 : Statement .hex4 := rfl
theorem hex5 : Statement .hex5 := rfl
theorem hex6 : Statement .hex6 := rfl
theorem hex7 : Statement .hex7 := rfl
theorem hex8 : Statement .hex8 := rfl
theorem hex9 : Statement .hex9 := rfl
theorem hexLA : Statement .hexLA := rfl
theorem hexLB : Statement .hexLB := rfl
theorem hexLC : Statement .hexLC := rfl
theorem hexLD : Statement .hexLD := rfl
theorem hexLE : Statement .hexLE := rfl
theorem hexLF : Statement .hexLF := rfl
theorem hexUA : Statement .hexUA := rfl
theorem hexUB : Statement .hexUB := rfl
theorem hexUC : Statement .hexUC := rfl
theorem hexUD : Statement .hexUD := rfl
theorem hexUE : Statement .hexUE := rfl
theorem hexUF : Statement .hexUF := rfl
theorem selG0 (w : Word) : Statement (.selG0 w) := rfl
theorem selG1 (w : Word) : Statement (.selG1 w) := rfl
theorem selG2 (w : Word) : Statement (.selG2 w) := rfl
theorem selG3 (w : Word) : Statement (.selG3 w) := rfl
theorem selG4 (w : Word) : Statement (.selG4 w) := rfl
theorem selG5 (w : Word) : Statement (.selG5 w) := rfl
theorem selG6 (w : Word) : Statement (.selG6 w) := rfl
theorem selG7 (w : Word) : Statement (.selG7 w) := rfl
theorem selG8 (w : Word) : Statement (.selG8 w) := rfl
theorem selG9 (w : Word) : Statement (.selG9 w) := rfl
theorem extVersion (w : Word) : Statement (.extVersion w) := rfl
theorem extTrafficClass (w : Word) : Statement (.extTrafficClass w) := rfl
theorem extFlowLabel (w : Word) : Statement (.extFlowLabel w) := rfl
theorem extPayloadLength (w : Word) : Statement (.extPayloadLength w) := rfl
theorem extNextHeader (w : Word) : Statement (.extNextHeader w) := rfl
theorem extHopLimit (w : Word) : Statement (.extHopLimit w) := rfl
theorem sliceSrc0 (w : Word) : Statement (.sliceSrc0 w) := rfl
theorem sliceSrc1 (w : Word) : Statement (.sliceSrc1 w) := rfl
theorem sliceSrc2 (w : Word) : Statement (.sliceSrc2 w) := rfl
theorem sliceSrc3 (w : Word) : Statement (.sliceSrc3 w) := rfl
theorem sliceSrc4 (w : Word) : Statement (.sliceSrc4 w) := rfl
theorem sliceSrc5 (w : Word) : Statement (.sliceSrc5 w) := rfl
theorem sliceSrc6 (w : Word) : Statement (.sliceSrc6 w) := rfl
theorem sliceSrc7 (w : Word) : Statement (.sliceSrc7 w) := rfl
theorem sliceDst0 (w : Word) : Statement (.sliceDst0 w) := rfl
theorem sliceDst1 (w : Word) : Statement (.sliceDst1 w) := rfl
theorem sliceDst2 (w : Word) : Statement (.sliceDst2 w) := rfl
theorem sliceDst3 (w : Word) : Statement (.sliceDst3 w) := rfl
theorem sliceDst4 (w : Word) : Statement (.sliceDst4 w) := rfl
theorem sliceDst5 (w : Word) : Statement (.sliceDst5 w) := rfl
theorem sliceDst6 (w : Word) : Statement (.sliceDst6 w) := rfl
theorem sliceDst7 (w : Word) : Statement (.sliceDst7 w) := rfl

end Sys2Proof.Laws.RoundTrip
end

