-- ==== Sys2Proof/Laws/Step.lean ====
section
/-! SUPPORT. What a digit command, a clock edge and a step can do, said once. -/

namespace Sys2Proof.Machine

/-! ### The digit commands -/

/-- The nibble column of R76 by operation. -/
def digitValue (i : Instr) : Option Nibble := (symbolTable.find? fun r => r.instr == i).map SymbolRow.nibble

/-- Every digit command accepts the digit of its row (R123 to R144). -/
theorem exec_of_digitValue {i : Instr} {d : Nibble} (h : digitValue i = some d) (s : State) :
    exec i s = s.acceptDigit d := by
  unfold digitValue at h
  obtain ⟨r, hr, rfl⟩ := Option.map_eq_some_iff.mp h
  obtain rfl : r.instr = i := by simpa using List.find?_some hr
  have hm : r ∈ symbolTable := List.mem_of_find?_eq_some hr
  clear h hr
  simp only [symbolTable, decimalRows, lowerRows, upperRows, List.mem_append, List.mem_cons, List.not_mem_nil,
    or_false] at hm
  rcases hm with (hm | hm) | hm <;>
    rcases hm with rfl | rfl | rfl | rfl | rfl | rfl | hm <;> try rfl
  rcases hm with rfl | rfl | rfl | rfl <;> rfl

/-- The symbol table and HexVal agree on all 256 symbols (R76, R120). -/
theorem decodeSymbol_eq_hexVal :
    ∀ c : Symbol, (decodeSymbol c).toOption.map digitValue = (hexVal c).map some := by
  decide +kernel

theorem decodeSymbol_of_hexVal_none {c : Symbol} (h : hexVal c = none) :
    decodeSymbol c = .error (.nonDigitSymbol c) := by
  have ht := decodeSymbol_eq_hexVal c
  rw [h] at ht
  unfold decodeSymbol at ht ⊢
  split at ht
  · simp [Except.toOption] at ht
  · rfl

theorem decodeSymbol_of_hexVal_some {c : Symbol} {d : Nibble} (h : hexVal c = some d) :
    ∃ i, decodeSymbol c = .ok i ∧ digitValue i = some d := by
  have ht := decodeSymbol_eq_hexVal c
  rw [h] at ht
  cases hd : decodeSymbol c with
  | error e => simp [hd, Except.toOption] at ht
  | ok i => exact ⟨i, rfl, by simpa [hd, Except.toOption] using ht⟩

/-- The state after a digit of value d in RUN (R102). -/
def State.afterDigit (s : State) (d : Nibble) : State :=
  if digitIndex s.cnt = 7#3 then
    referenceCommit (s.advance (shiftIn s.acc d)) (groupIndex s.cnt).toNat (shiftIn s.acc d)
  else s.advance (shiftIn s.acc d)

theorem groupIndex_le {cnt : Position} (h : cnt ≤ 79#7) : groupIndex cnt ≤ 9#4 := by
  revert h cnt
  decide +kernel

theorem State.shiftDigit_eq {s : State} (h : s.legal = true) (hr : s.status = .run) (d : Nibble) :
    s.shiftDigit d = .next (s.afterDigit d) := by
  unfold State.shiftDigit State.afterDigit
  split
  · exact fireSelect_eq _ _ _ (groupIndex_le (s.legal_run h hr).1)
  · rfl

theorem State.acceptDigit_eq {s : State} (h : s.legal = true) (hr : s.status = .run) (d : Nibble) :
    s.acceptDigit d = .next (s.afterDigit d) := by
  rw [State.acceptDigit, State.whenRunning_of_run h hr, State.shiftDigit_eq h hr]

/-! ### What a commit leaves alone -/

section
variable (s : State) (g : Nat) (w : Word)

@[simp] theorem referenceCommit_acc : (referenceCommit s g w).acc = s.acc := by
  unfold referenceCommit; split_ifs <;> rfl
@[simp] theorem referenceCommit_cnt : (referenceCommit s g w).cnt = s.cnt := by
  unfold referenceCommit; split_ifs <;> rfl
@[simp] theorem referenceCommit_status : (referenceCommit s g w).status = s.status := by
  unfold referenceCommit; split_ifs <;> rfl
@[simp] theorem referenceCommit_errCause : (referenceCommit s g w).errCause = s.errCause := by
  unfold referenceCommit; split_ifs <;> rfl
@[simp] theorem referenceCommit_errPos : (referenceCommit s g w).errPos = s.errPos := by
  unfold referenceCommit; split_ifs <;> rfl
@[simp] theorem referenceCommit_inputs : (referenceCommit s g w).inputs = s.inputs := by
  unfold referenceCommit; split_ifs <;> rfl

end

/-! ### What a commit writes -/

theorem referenceCommit_group0 (s : State) (g : Nat) (w : Word) :
    (referenceCommit s g w).version = (if g = 0 then w.extractLsb' 28 4 else s.version) ∧
    (referenceCommit s g w).trafficClass = (if g = 0 then w.extractLsb' 20 8 else s.trafficClass) ∧
    (referenceCommit s g w).flowLabel = (if g = 0 then w.extractLsb' 0 20 else s.flowLabel) := by
  unfold referenceCommit
  split_ifs <;> simp_all

theorem referenceCommit_group1 (s : State) (g : Nat) (w : Word) :
    (referenceCommit s g w).payloadLength = (if g = 1 then w.extractLsb' 16 16 else s.payloadLength) ∧
    (referenceCommit s g w).nextHeader = (if g = 1 then w.extractLsb' 8 8 else s.nextHeader) ∧
    (referenceCommit s g w).hopLimit = (if g = 1 then w.extractLsb' 0 8 else s.hopLimit) := by
  unfold referenceCommit
  split_ifs <;> simp_all

theorem referenceCommit_src (s : State) {g : Nat} (w : Word) (k : Fin 8) (hg : g ≤ 9) :
    (referenceCommit s g w).src[k] =
      if g = 2 + k.val / 2 then (if k.val % 2 = 0 then w.extractLsb' 16 16 else w.extractLsb' 0 16) else s.src[k] := by
  revert k
  obtain rfl | rfl | rfl | rfl | rfl | rfl | rfl | rfl | rfl | rfl : g = 0 ∨ g = 1 ∨ g = 2 ∨ g = 3 ∨ g = 4 ∨ g = 5 ∨
    g = 6 ∨ g = 7 ∨ g = 8 ∨ g = 9 := by omega
  all_goals simp [referenceCommit, Fin.forall_fin_succ, Vector.getElem_setIfInBounds]

theorem referenceCommit_dst (s : State) {g : Nat} (w : Word) (k : Fin 8) (hg : g ≤ 9) :
    (referenceCommit s g w).dst[k] =
      if g = 6 + k.val / 2 then (if k.val % 2 = 0 then w.extractLsb' 16 16 else w.extractLsb' 0 16) else s.dst[k] := by
  revert k
  obtain rfl | rfl | rfl | rfl | rfl | rfl | rfl | rfl | rfl | rfl : g = 0 ∨ g = 1 ∨ g = 2 ∨ g = 3 ∨ g = 4 ∨ g = 5 ∨
    g = 6 ∨ g = 7 ∨ g = 8 ∨ g = 9 := by omega
  all_goals simp [referenceCommit, Fin.forall_fin_succ, Vector.getElem_setIfInBounds]

theorem digitIndex_toNat : ∀ cnt : Position, (digitIndex cnt).toNat = cnt.toNat % 8 := by decide +kernel

theorem groupIndex_toNat : ∀ cnt : Position, (groupIndex cnt).toNat = cnt.toNat / 8 := by decide +kernel

section
variable (s : State) (d : Nibble)

@[simp] theorem State.afterDigit_acc : (s.afterDigit d).acc = shiftIn s.acc d := by
  unfold State.afterDigit; split <;> simp
@[simp] theorem State.afterDigit_cnt : (s.afterDigit d).cnt = s.cnt + 1#7 := by
  unfold State.afterDigit; split <;> simp
@[simp] theorem State.afterDigit_status : (s.afterDigit d).status = statusAfterDigit s.cnt s.status := by
  unfold State.afterDigit; split <;> simp
@[simp] theorem State.afterDigit_errCause : (s.afterDigit d).errCause = s.errCause := by
  unfold State.afterDigit; split <;> simp
@[simp] theorem State.afterDigit_errPos : (s.afterDigit d).errPos = s.errPos := by
  unfold State.afterDigit; split <;> simp
@[simp] theorem State.afterDigit_inputs : (s.afterDigit d).inputs = s.inputs := by
  unfold State.afterDigit; split <;> simp

end

theorem State.legal_afterDigit {s : State} (h : s.legal = true) (hr : s.status = .run) (d : Nibble) :
    (s.afterDigit d).legal = true := by
  rw [← State.legal_advance h hr (shiftIn s.acc d)]
  simp only [State.legal, State.afterDigit_status, State.afterDigit_cnt, State.afterDigit_errCause,
    State.afterDigit_errPos, State.advance_status, State.advance_cnt, State.advance_errCause, State.advance_errPos]
  rfl

/-! ### The clock edge -/

theorem commandWord_cmd (c : BitVec 2) (d : Symbol) : (commandWord c d).extractLsb' 8 2 = c := by
  revert c d
  decide +kernel

theorem commandWord_data (c : BitVec 2) (d : Symbol) : (commandWord c d).extractLsb' 0 8 = d := by
  revert c d
  decide +kernel

theorem clockEdge_rst (s : State) {p : InputSample} (h : p.rst = true) : clockEdge s p = .next s.clear := by
  simp [clockEdge, h]

theorem clockEdge_start (s : State) {p : InputSample} (hr : p.rst = false) (hc : p.cmd = Config.cmdStart) :
    clockEdge s p = .next s.clear := by
  simp [clockEdge, hr, InputSample.word, decode, decodeCommand, commandWord_cmd, hc, Config.cmdNop, Config.cmdChar,
    Config.cmdEnd, Config.cmdStart, exec, execStart]

theorem clockEdge_nop (s : State) {p : InputSample} (hr : p.rst = false) (hc : p.cmd = Config.cmdNop) :
    clockEdge s p = s.whenLegal (.next s) := by
  simp [clockEdge, hr, InputSample.word, decode, decodeCommand, commandWord_cmd, hc, exec, execNop]

theorem clockEdge_end (s : State) {p : InputSample} (hr : p.rst = false) (hc : p.cmd = Config.cmdEnd) :
    clockEdge s p = s.whenRunning (.next (s.raiseParseError .shortInput s.cnt)) := by
  simp [clockEdge, hr, InputSample.word, decode, decodeCommand, commandWord_cmd, hc, Config.cmdNop, Config.cmdChar,
    Config.cmdEnd, exec, execEndText]

theorem clockEdge_char (s : State) {p : InputSample} (hr : p.rst = false) (hc : p.cmd = Config.cmdChar) :
    clockEdge s p =
      match hexVal p.data with
      | some d => s.acceptDigit d
      | none => s.acceptNonDigit := by
  have hd : decode (.command p.word) = decodeSymbol p.data := by
    simp [InputSample.word, decode, decodeCommand, commandWord_cmd, commandWord_data, hc, Config.cmdNop,
      Config.cmdChar]
  simp only [clockEdge, hr, hd, Bool.false_eq_true, if_false]
  cases hx : hexVal p.data with
  | none => rw [decodeSymbol_of_hexVal_none hx]
  | some d =>
    obtain ⟨i, hi, hv⟩ := decodeSymbol_of_hexVal_some hx
    rw [hi]
    exact exec_of_digitValue hv s

/-- The four values of cmd (R71). -/
theorem cmd_cases (c : BitVec 2) :
    c = Config.cmdNop ∨ c = Config.cmdChar ∨ c = Config.cmdEnd ∨ c = Config.cmdStart := by
  revert c
  decide

/-- Everything a clock edge can answer with a next state: the registers are cleared, or nothing changes, or a ParseError
is raised, or a digit is accepted. -/
theorem clockEdge_next {s t : State} {p : InputSample} (h : clockEdge s p = .next t) :
    t = s.clear ∧ (p.rst = true ∨ p.cmd = Config.cmdStart) ∨
    p.rst = false ∧ s.legal = true ∧ t = s ∧ (p.cmd = Config.cmdNop ∨ s.status ≠ .run ∧ p.cmd ≠ Config.cmdStart) ∨
    p.rst = false ∧ s.legal = true ∧ s.status = .run ∧ p.cmd = Config.cmdEnd ∧
      t = s.raiseParseError .shortInput s.cnt ∨
    p.rst = false ∧ s.legal = true ∧ s.status = .run ∧ p.cmd = Config.cmdChar ∧ hexVal p.data = none ∧
      t = s.raiseParseError .nonHex s.cnt ∨
    p.rst = false ∧ s.legal = true ∧ s.status = .run ∧ p.cmd = Config.cmdChar ∧
      ∃ d, hexVal p.data = some d ∧ t = s.afterDigit d := by
  cases hr : p.rst with
  | true =>
    rw [clockEdge_rst s hr] at h
    injection h with h
    exact .inl ⟨h.symm, .inl rfl⟩
  | false =>
    rcases cmd_cases p.cmd with hc | hc | hc | hc
    · rw [clockEdge_nop s hr hc] at h
      cases hl : s.legal with
      | false => rw [State.whenLegal_of_not_legal hl] at h; cases h
      | true =>
        rw [State.whenLegal_of_legal hl] at h
        injection h with h
        exact .inr (.inl ⟨rfl, rfl, h.symm, .inl hc⟩)
    · rw [clockEdge_char s hr hc] at h
      have hns : p.cmd ≠ Config.cmdStart := by rw [hc]; decide
      cases hx : hexVal p.data with
      | none =>
        rw [hx] at h
        obtain ⟨hl, ⟨hs, ht⟩ | ⟨hs, ht⟩⟩ := State.whenRunning_next h
        · injection ht with ht
          exact .inr (.inr (.inr (.inl ⟨rfl, hl, hs, hc, rfl, ht.symm⟩)))
        · exact .inr (.inl ⟨rfl, hl, ht, .inr ⟨hs, hns⟩⟩)
      | some d =>
        rw [hx] at h
        obtain ⟨hl, ⟨hs, ht⟩ | ⟨hs, ht⟩⟩ := State.whenRunning_next h
        · rw [State.shiftDigit_eq hl hs] at ht
          injection ht with ht
          exact .inr (.inr (.inr (.inr ⟨rfl, hl, hs, hc, d, rfl, ht.symm⟩)))
        · exact .inr (.inl ⟨rfl, hl, ht, .inr ⟨hs, hns⟩⟩)
    · rw [clockEdge_end s hr hc] at h
      obtain ⟨hl, ⟨hs, ht⟩ | ⟨hs, ht⟩⟩ := State.whenRunning_next h
      · injection ht with ht
        exact .inr (.inr (.inl ⟨rfl, hl, hs, hc, ht.symm⟩))
      · exact .inr (.inl ⟨rfl, hl, ht, .inr ⟨hs, by rw [hc]; decide⟩⟩)
    · rw [clockEdge_start s hr hc] at h
      injection h with h
      exact .inl ⟨h.symm, .inr hc⟩

/-- In DONE and ERR every command but START changes nothing (R107). -/
theorem clockEdge_not_run {s : State} {p : InputSample} (h : s.legal = true) (hs : s.status ≠ .run)
    (hr : p.rst = false) (hc : p.cmd ≠ Config.cmdStart) : clockEdge s p = .next s := by
  rcases cmd_cases p.cmd with hc' | hc' | hc' | hc'
  · rw [clockEdge_nop s hr hc', State.whenLegal_of_legal h]
  · rw [clockEdge_char s hr hc']
    cases hexVal p.data with
    | none => exact State.whenRunning_of_not_run h hs _
    | some d => exact State.whenRunning_of_not_run h hs _
  · rw [clockEdge_end s hr hc', State.whenRunning_of_not_run h hs]
  · exact absurd hc' hc

/-- A step from a state of the block always answers a next state, and again a state of the block. -/
theorem clockEdge_total {s : State} (h : s.legal = true) (p : InputSample) :
    ∃ t, clockEdge s p = .next t ∧ t.legal = true := by
  cases hr : p.rst with
  | true => exact ⟨_, clockEdge_rst s hr, s.legal_clear⟩
  | false =>
    rcases cmd_cases p.cmd with hc | hc | hc | hc
    · exact ⟨s, by rw [clockEdge_nop s hr hc, State.whenLegal_of_legal h], h⟩
    · rw [clockEdge_char s hr hc]
      by_cases hs : s.status = .run
      · cases hexVal p.data with
        | none =>
          exact ⟨_, State.whenRunning_of_run h hs _, State.legal_raiseParseError h hs (by decide)⟩
        | some d => exact ⟨_, State.acceptDigit_eq h hs d, State.legal_afterDigit h hs d⟩
      · cases hexVal p.data with
        | none => exact ⟨s, State.whenRunning_of_not_run h hs _, h⟩
        | some d => exact ⟨s, State.whenRunning_of_not_run h hs _, h⟩
    · rw [clockEdge_end s hr hc]
      by_cases hs : s.status = .run
      · exact ⟨_, State.whenRunning_of_run h hs _, State.legal_raiseParseError h hs (by decide)⟩
      · exact ⟨s, State.whenRunning_of_not_run h hs _, h⟩
    · exact ⟨_, clockEdge_start s hr hc, s.legal_clear⟩

/-! ### The step and a run -/

theorem step_withInputs_cons (s : State) (p : InputSample) (ps : List InputSample) :
    step (s.withInputs (p :: ps)) = clockEdge (s.withInputs ps) p := rfl

theorem step_withInputs_nil (s : State) : step (s.withInputs []) = clockEdge (s.withInputs []) idleSample := rfl

theorem runProgram_nil (s : State) : runProgram s [] = .next (s.withInputs []) := rfl

theorem runProgram_cons (s : State) (p : InputSample) (ps : List InputSample) :
    runProgram s (p :: ps) = andThen (clockEdge (s.withInputs ps) p) (runSteps ps.length) := rfl

theorem core_run_next (M : Host.Core) (k : Nat) {s t : M.State} (h : M.step s = .next t) :
    M.run (k + 1) s = M.run k t := by
  simp only [Host.Core.run, h]

theorem core_run_fault (M : Host.Core) (k : Nat) {s : M.State} {r : M.Fault} (h : M.step s = .fault r) :
    M.run (k + 1) s = .fault r := by
  simp only [Host.Core.run, h]

theorem core_run_refused (M : Host.Core) (k : Nat) {s : M.State} {r : M.Refusal} (h : M.step s = .refused r) :
    M.run (k + 1) s = .refused r := by
  simp only [Host.Core.run, h]

/-- The host's run of the machine is runSteps. -/
theorem core_run_eq_runSteps (k : Nat) (s : State) : Host.Core.run Sys2Proof.core k s = runSteps k s := by
  induction k generalizing s with
  | zero => rfl
  | succ k ih =>
    rw [runSteps]
    cases h : step s with
    | next t => exact (core_run_next Sys2Proof.core k h).trans (ih t)
    | fault r => exact core_run_fault Sys2Proof.core k h
    | refused r => exact core_run_refused Sys2Proof.core k h

end Sys2Proof.Machine
end

