-- ==== Sys2Proof/Tests/Slice0.lean ====
section
/-! SUPPORT. The model's own tests. The expected results are from spec/95_test_vectors.md (the vector is named) or written
out from the encoding rules of spec/30_encoding.md, never from the model. Then, for every obligation with hypotheses, a
witness: a concrete state and operands that meet all of them, for each clause at a boundary of its range. -/

namespace Sys2Proof.Tests

open Sys2Proof.Machine

/-! ### Helpers -/

/-- The next state of an outcome, if it is one. -/
def nextState : Result → Option State
  | .next s => some s
  | .fault _ => none
  | .refused _ => none

/-- The state after one step whose sample has a command word. -/
def stepWord (w : CommandWord) (s : State) : Option State := nextState (clockEdge s (InputSample.ofWord w))

/-- A state in RUN at a position with an accumulator, every other register 0. -/
def runAt (cnt : Position) (acc : Word) : State := { State.reset with cnt := cnt, acc := acc }

/-- State B of the vectors: after RESET, TEXT "6abcd". -/
def stB : State := runAt 5 0x0006abcd

/-- State D: the end state of the all-f text. -/
def stD : State where
  version := 15
  trafficClass := 255
  flowLabel := 1048575
  payloadLength := 65535
  nextHeader := 255
  hopLimit := 255
  src := Vector.replicate 8 0xffff
  dst := Vector.replicate 8 0xffff
  acc := 0xffffffff
  cnt := 80
  status := .done
  errCause := .noError
  errPos := 0
  inputs := []

/-- State X: after RESET, TEXT "6abcdefg". -/
def stX : State := { State.reset with status := .err, cnt := 7, acc := 0x06abcdef, errCause := .nonHex, errPos := 7 }

/-- State M: after RESET, TEXT "6000000089a". -/
def stM : State := { State.reset with cnt := 11, acc := 0x0000089a, version := 6 }

/-- The text of 80 symbols 0. -/
def zeroText : Text := List.replicate 80 0x30

/-- A state in RUN in which position 0 is next, with rubbish in ACC and the field registers. -/
def dirtyStart : State := { stD with status := .run, cnt := 0, acc := 0xdeadbeef }

/-! ### Decoding: words written out from R70 to R72, R76, R78 to R82 and R85 -/

theorem test_decode_control :
    decode (.command (0b00#2 ++ 0b00000000#8)) = .ok .nop ∧ decode (.command (0b10#2 ++ 0b00110000#8)) = .ok .endText ∧
    decode (.command (0b11#2 ++ 0b01100111#8)) = .ok .start := by decide

theorem test_decode_digits :
    decode (.command (0b01#2 ++ 0b00111001#8)) = .ok .hex9 ∧ decode (.command (0b01#2 ++ 0b01100001#8)) = .ok .hexLA ∧
    decode (.command (0b01#2 ++ 0b01000001#8)) = .ok .hexUA := by decide

theorem test_decode_selects :
    decode (.select 0b0000#4 5#32) = .ok (.selG0 5#32) ∧ decode (.select 0b1001#4 5#32) = .ok (.selG9 5#32) := by decide

theorem test_decode_scalar_fields :
    decode (.field 0b0000#4 .v 5#32) = .ok (.extVersion 5#32) ∧
    decode (.field 0b0001#4 .p 5#32) = .ok (.extPayloadLength 5#32) := by decide

theorem test_decode_address_fields :
    decode (.field 0b0010#4 .h 5#32) = .ok (.sliceSrc0 5#32) ∧
    decode (.field 0b1001#4 .l 5#32) = .ok (.sliceDst7 5#32) := by decide

/-! ### Well-formedness: an ill-formed word for each check, which the check and the decoder refuse -/

theorem test_nonDigit_ill_formed :
    (Code.command 0x167#10).wellFormed = false ∧ decode (.command 0x167#10) = .error (.nonDigitSymbol 0x67#8) := by
  decide

theorem test_selectKey_ill_formed :
    (Code.select 10#4 0#32).wellFormed = false ∧ decode (.select 10#4 0#32) = .error (.reservedSelectKey 10#4) := by
  decide

theorem test_letter_ill_formed :
    (Code.field 2#4 .v 0#32).wellFormed = false ∧ decode (.field 2#4 .v 0#32) = .error (.noSuchField 2#4 .v) := by decide

theorem test_fieldKey_ill_formed :
    (Code.field 10#4 .h 0#32).wellFormed = false ∧ decode (.field 10#4 .h 0#32) = .error (.noSuchField 10#4 .h) := by
  decide

/-! ### The control commands and the reset input (vectors V1.1 to V1.19) -/

/-- V1.2, V1.3. -/
theorem test_nop : stepWord 0x0ff#10 stB = some stB ∧ stepWord 0x000#10 stD = some stD := by decide

/-- V1.6, V1.8. -/
theorem test_start : stepWord 0x366#10 stB = some State.reset ∧ stepWord 0x300#10 stX = some State.reset := by decide

/-- V1.10. -/
theorem test_end_in_run :
    stepWord 0x230#10 stB = some { stB with status := .err, errCause := .shortInput, errPos := 5 } := by decide

/-- V1.11, V1.12. -/
theorem test_end_ignored : stepWord 0x200#10 stD = some stD ∧ stepWord 0x200#10 stX = some stX := by decide

/-- V1.15. -/
theorem test_nonDigit_in_run :
    stepWord 0x167#10 stB = some { stB with status := .err, errCause := .nonHex, errPos := 5 } := by decide

/-- V1.17, V1.19. -/
theorem test_nonDigit_ignored : stepWord 0x167#10 stD = some stD ∧ stepWord 0x17a#10 stX = some stX := by decide

/-- V1.16, V1.18. -/
theorem test_digit_ignored : stepWord 0x130#10 stD = some stD ∧ stepWord 0x130#10 stX = some stX := by decide

/-- The reset input wins over CHAR 'f' from X (2.1, R240). -/
theorem test_rst : nextState (clockEdge stX ⟨true, 1, 0x66⟩) = some State.reset := by decide

/-! ### The digit commands (vectors 2.2, from A and from M) -/

theorem test_hex0 :
    stepWord 0x130#10 State.reset = some (runAt 1 0x0) ∧
    stepWord 0x130#10 stM = some { stM with cnt := 12, acc := 0x89a0 } := by decide

theorem test_hex1 :
    stepWord 0x131#10 State.reset = some (runAt 1 0x1) ∧
    stepWord 0x131#10 stM = some { stM with cnt := 12, acc := 0x89a1 } := by decide

theorem test_hex2 :
    stepWord 0x132#10 State.reset = some (runAt 1 0x2) ∧
    stepWord 0x132#10 stM = some { stM with cnt := 12, acc := 0x89a2 } := by decide

theorem test_hex3 :
    stepWord 0x133#10 State.reset = some (runAt 1 0x3) ∧
    stepWord 0x133#10 stM = some { stM with cnt := 12, acc := 0x89a3 } := by decide

theorem test_hex4 :
    stepWord 0x134#10 State.reset = some (runAt 1 0x4) ∧
    stepWord 0x134#10 stM = some { stM with cnt := 12, acc := 0x89a4 } := by decide

theorem test_hex5 :
    stepWord 0x135#10 State.reset = some (runAt 1 0x5) ∧
    stepWord 0x135#10 stM = some { stM with cnt := 12, acc := 0x89a5 } := by decide

theorem test_hex6 :
    stepWord 0x136#10 State.reset = some (runAt 1 0x6) ∧
    stepWord 0x136#10 stM = some { stM with cnt := 12, acc := 0x89a6 } := by decide

theorem test_hex7 :
    stepWord 0x137#10 State.reset = some (runAt 1 0x7) ∧
    stepWord 0x137#10 stM = some { stM with cnt := 12, acc := 0x89a7 } := by decide

theorem test_hex8 :
    stepWord 0x138#10 State.reset = some (runAt 1 0x8) ∧
    stepWord 0x138#10 stM = some { stM with cnt := 12, acc := 0x89a8 } := by decide

theorem test_hex9 :
    stepWord 0x139#10 State.reset = some (runAt 1 0x9) ∧
    stepWord 0x139#10 stM = some { stM with cnt := 12, acc := 0x89a9 } := by decide

theorem test_hexLA :
    stepWord 0x161#10 State.reset = some (runAt 1 0xa) ∧
    stepWord 0x161#10 stM = some { stM with cnt := 12, acc := 0x89aa } := by decide

theorem test_hexLB :
    stepWord 0x162#10 State.reset = some (runAt 1 0xb) ∧
    stepWord 0x162#10 stM = some { stM with cnt := 12, acc := 0x89ab } := by decide

theorem test_hexLC :
    stepWord 0x163#10 State.reset = some (runAt 1 0xc) ∧
    stepWord 0x163#10 stM = some { stM with cnt := 12, acc := 0x89ac } := by decide

theorem test_hexLD :
    stepWord 0x164#10 State.reset = some (runAt 1 0xd) ∧
    stepWord 0x164#10 stM = some { stM with cnt := 12, acc := 0x89ad } := by decide

theorem test_hexLE :
    stepWord 0x165#10 State.reset = some (runAt 1 0xe) ∧
    stepWord 0x165#10 stM = some { stM with cnt := 12, acc := 0x89ae } := by decide

theorem test_hexLF :
    stepWord 0x166#10 State.reset = some (runAt 1 0xf) ∧
    stepWord 0x166#10 stM = some { stM with cnt := 12, acc := 0x89af } := by decide

theorem test_hexUA :
    stepWord 0x141#10 State.reset = some (runAt 1 0xa) ∧
    stepWord 0x141#10 stM = some { stM with cnt := 12, acc := 0x89aa } := by decide

theorem test_hexUB :
    stepWord 0x142#10 State.reset = some (runAt 1 0xb) ∧
    stepWord 0x142#10 stM = some { stM with cnt := 12, acc := 0x89ab } := by decide

theorem test_hexUC :
    stepWord 0x143#10 State.reset = some (runAt 1 0xc) ∧
    stepWord 0x143#10 stM = some { stM with cnt := 12, acc := 0x89ac } := by decide

theorem test_hexUD :
    stepWord 0x144#10 State.reset = some (runAt 1 0xd) ∧
    stepWord 0x144#10 stM = some { stM with cnt := 12, acc := 0x89ad } := by decide

theorem test_hexUE :
    stepWord 0x145#10 State.reset = some (runAt 1 0xe) ∧
    stepWord 0x145#10 stM = some { stM with cnt := 12, acc := 0x89ae } := by decide

theorem test_hexUF :
    stepWord 0x146#10 State.reset = some (runAt 1 0xf) ∧
    stepWord 0x146#10 stM = some { stM with cnt := 12, acc := 0x89af } := by decide

/-- The nibble that is lost (2.2). -/
theorem test_top_nibble_lost : stepWord 0x135#10 (runAt 19 0x89abcdef) = some (runAt 20 0x9abcdef5) := by decide

/-! ### The selects (vectors 2.5, 2.6; fired by a digit as in 2.7) -/

theorem test_selG0 :
    nextState (exec (.selG0 0x6abcdef0) State.reset) = some { State.reset with version := 6, trafficClass := 171, flowLabel := 843504 } := by decide

theorem test_selG0_fires :
    stepWord 0x130#10 (runAt 7 0xa6abcdef) =
      some { runAt 8 0x6abcdef0 with version := 6, trafficClass := 171, flowLabel := 843504 } := by decide

theorem test_selG1 :
    nextState (exec (.selG1 0x12341140) State.reset) = some { State.reset with payloadLength := 4660, nextHeader := 17, hopLimit := 64 } := by decide

theorem test_selG1_fires :
    stepWord 0x130#10 (runAt 15 0xa1234114) =
      some { runAt 16 0x12341140 with payloadLength := 4660, nextHeader := 17, hopLimit := 64 } := by decide

theorem test_selG2 :
    nextState (exec (.selG2 0x20010db8) State.reset) = some { State.reset with src := #v[0x2001, 0xdb8, 0x0, 0x0, 0x0, 0x0, 0x0, 0x0] } := by decide

theorem test_selG2_fires :
    stepWord 0x138#10 (runAt 23 0xa20010db) =
      some { runAt 24 0x20010db8 with src := #v[0x2001, 0xdb8, 0x0, 0x0, 0x0, 0x0, 0x0, 0x0] } := by decide

theorem test_selG3 :
    nextState (exec (.selG3 0x80007fff) State.reset) = some { State.reset with src := #v[0x0, 0x0, 0x8000, 0x7fff, 0x0, 0x0, 0x0, 0x0] } := by decide

theorem test_selG3_fires :
    stepWord 0x166#10 (runAt 31 0xa80007ff) =
      some { runAt 32 0x80007fff with src := #v[0x0, 0x0, 0x8000, 0x7fff, 0x0, 0x0, 0x0, 0x0] } := by decide

theorem test_selG4 :
    nextState (exec (.selG4 0x0000ff00) State.reset) = some { State.reset with src := #v[0x0, 0x0, 0x0, 0x0, 0x0, 0xff00, 0x0, 0x0] } := by decide

theorem test_selG4_fires :
    stepWord 0x130#10 (runAt 39 0xa0000ff0) =
      some { runAt 40 0x0000ff00 with src := #v[0x0, 0x0, 0x0, 0x0, 0x0, 0xff00, 0x0, 0x0] } := by decide

theorem test_selG5 :
    nextState (exec (.selG5 0x00428329) State.reset) = some { State.reset with src := #v[0x0, 0x0, 0x0, 0x0, 0x0, 0x0, 0x42, 0x8329] } := by decide

theorem test_selG5_fires :
    stepWord 0x139#10 (runAt 47 0xa0042832) =
      some { runAt 48 0x00428329 with src := #v[0x0, 0x0, 0x0, 0x0, 0x0, 0x0, 0x42, 0x8329] } := by decide

theorem test_selG6 :
    nextState (exec (.selG6 0xfe800000) State.reset) = some { State.reset with dst := #v[0xfe80, 0x0, 0x0, 0x0, 0x0, 0x0, 0x0, 0x0] } := by decide

theorem test_selG6_fires :
    stepWord 0x130#10 (runAt 55 0xafe80000) =
      some { runAt 56 0xfe800000 with dst := #v[0xfe80, 0x0, 0x0, 0x0, 0x0, 0x0, 0x0, 0x0] } := by decide

theorem test_selG7 :
    nextState (exec (.selG7 0x80007fff) State.reset) = some { State.reset with dst := #v[0x0, 0x0, 0x8000, 0x7fff, 0x0, 0x0, 0x0, 0x0] } := by decide

theorem test_selG7_fires :
    stepWord 0x166#10 (runAt 63 0xa80007ff) =
      some { runAt 64 0x80007fff with dst := #v[0x0, 0x0, 0x8000, 0x7fff, 0x0, 0x0, 0x0, 0x0] } := by decide

theorem test_selG8 :
    nextState (exec (.selG8 0x02aabbff) State.reset) = some { State.reset with dst := #v[0x0, 0x0, 0x0, 0x0, 0x2aa, 0xbbff, 0x0, 0x0] } := by decide

theorem test_selG8_fires :
    stepWord 0x166#10 (runAt 71 0xa02aabbf) =
      some { runAt 72 0x02aabbff with dst := #v[0x0, 0x0, 0x0, 0x0, 0x2aa, 0xbbff, 0x0, 0x0] } := by decide

theorem test_selG9 :
    nextState (exec (.selG9 0xfeccddee) State.reset) = some { State.reset with dst := #v[0x0, 0x0, 0x0, 0x0, 0x0, 0x0, 0xfecc, 0xddee] } := by decide

theorem test_selG9_fires :
    stepWord 0x165#10 (runAt 79 0xafeccdde) =
      some { runAt 80 0xfeccddee with dst := #v[0x0, 0x0, 0x0, 0x0, 0x0, 0x0, 0xfecc, 0xddee], status := .done } := by decide

/-! ### The scalar extractors (vectors 2.5) -/

theorem test_extVersion :
    nextState (exec (.extVersion 0x0fffffff) stD) = some { stD with version := 0 } ∧
    nextState (exec (.extVersion 0x6abcdef0) stD) = some { stD with version := 6 } := by decide

theorem test_extTrafficClass :
    nextState (exec (.extTrafficClass 0xf00fffff) stD) = some { stD with trafficClass := 0 } ∧
    nextState (exec (.extTrafficClass 0x6abcdef0) stD) = some { stD with trafficClass := 171 } := by decide

theorem test_extFlowLabel :
    nextState (exec (.extFlowLabel 0xfff00000) stD) = some { stD with flowLabel := 0 } ∧
    nextState (exec (.extFlowLabel 0x6abcdef0) stD) = some { stD with flowLabel := 843504 } := by decide

theorem test_extPayloadLength :
    nextState (exec (.extPayloadLength 0x0000ffff) stD) = some { stD with payloadLength := 0 } ∧
    nextState (exec (.extPayloadLength 0x12341140) stD) = some { stD with payloadLength := 4660 } := by decide

theorem test_extNextHeader :
    nextState (exec (.extNextHeader 0xffff00ff) stD) = some { stD with nextHeader := 0 } ∧
    nextState (exec (.extNextHeader 0x12341140) stD) = some { stD with nextHeader := 17 } := by decide

theorem test_extHopLimit :
    nextState (exec (.extHopLimit 0xffffff00) stD) = some { stD with hopLimit := 0 } ∧
    nextState (exec (.extHopLimit 0x12341140) stD) = some { stD with hopLimit := 64 } := by decide

/-! ### The address slicers (vectors 2.6) -/

theorem test_sliceSrc0 :
    nextState (exec (.sliceSrc0 0x80007fff) State.reset) = some { State.reset with src := #v[0x8000, 0, 0, 0, 0, 0, 0, 0] } := by decide

theorem test_sliceSrc1 :
    nextState (exec (.sliceSrc1 0x80007fff) State.reset) = some { State.reset with src := #v[0, 0x7fff, 0, 0, 0, 0, 0, 0] } := by decide

theorem test_sliceSrc2 :
    nextState (exec (.sliceSrc2 0x80007fff) State.reset) = some { State.reset with src := #v[0, 0, 0x8000, 0, 0, 0, 0, 0] } := by decide

theorem test_sliceSrc3 :
    nextState (exec (.sliceSrc3 0x80007fff) State.reset) = some { State.reset with src := #v[0, 0, 0, 0x7fff, 0, 0, 0, 0] } := by decide

theorem test_sliceSrc4 :
    nextState (exec (.sliceSrc4 0x80007fff) State.reset) = some { State.reset with src := #v[0, 0, 0, 0, 0x8000, 0, 0, 0] } := by decide

theorem test_sliceSrc5 :
    nextState (exec (.sliceSrc5 0x80007fff) State.reset) = some { State.reset with src := #v[0, 0, 0, 0, 0, 0x7fff, 0, 0] } := by decide

theorem test_sliceSrc6 :
    nextState (exec (.sliceSrc6 0x80007fff) State.reset) = some { State.reset with src := #v[0, 0, 0, 0, 0, 0, 0x8000, 0] } := by decide

theorem test_sliceSrc7 :
    nextState (exec (.sliceSrc7 0x80007fff) State.reset) = some { State.reset with src := #v[0, 0, 0, 0, 0, 0, 0, 0x7fff] } := by decide

theorem test_sliceDst0 :
    nextState (exec (.sliceDst0 0x80007fff) State.reset) = some { State.reset with dst := #v[0x8000, 0, 0, 0, 0, 0, 0, 0] } := by decide

theorem test_sliceDst1 :
    nextState (exec (.sliceDst1 0x80007fff) State.reset) = some { State.reset with dst := #v[0, 0x7fff, 0, 0, 0, 0, 0, 0] } := by decide

theorem test_sliceDst2 :
    nextState (exec (.sliceDst2 0x80007fff) State.reset) = some { State.reset with dst := #v[0, 0, 0x8000, 0, 0, 0, 0, 0] } := by decide

theorem test_sliceDst3 :
    nextState (exec (.sliceDst3 0x80007fff) State.reset) = some { State.reset with dst := #v[0, 0, 0, 0x7fff, 0, 0, 0, 0] } := by decide

theorem test_sliceDst4 :
    nextState (exec (.sliceDst4 0x80007fff) State.reset) = some { State.reset with dst := #v[0, 0, 0, 0, 0x8000, 0, 0, 0] } := by decide

theorem test_sliceDst5 :
    nextState (exec (.sliceDst5 0x80007fff) State.reset) = some { State.reset with dst := #v[0, 0, 0, 0, 0, 0x7fff, 0, 0] } := by decide

theorem test_sliceDst6 :
    nextState (exec (.sliceDst6 0x80007fff) State.reset) = some { State.reset with dst := #v[0, 0, 0, 0, 0, 0, 0x8000, 0] } := by decide

theorem test_sliceDst7 :
    nextState (exec (.sliceDst7 0x80007fff) State.reset) = some { State.reset with dst := #v[0, 0, 0, 0, 0, 0, 0, 0x7fff] } := by decide

/-! ### The ports (2.6, packing), the reference function (2.8) and the staged rows (log entry 7) -/

theorem test_packAddress :
    packAddress #v[0x2001, 0x0db8, 0, 0, 0, 0xff00, 0x0042, 0x8329] = 0x20010DB8000000000000FF0000428329#128 := by decide

/-- Field locality (2.8), positions 3 and 79. -/
theorem test_locality :
    decodeText (zeroText.set 3 0x31) = .ok { State.reset.fieldRegisters with flowLabel := 65536 } ∧
    decodeText (zeroText.set 79 0x31) =
      .ok { State.reset.fieldRegisters with destinationAddress := #v[0, 0, 0, 0, 0, 0, 0, 1] } := by
  decide +kernel

theorem test_staged_command :
    nextState (step (State.reset.withFetchWord 16 0x165)) = some (runAt 1 14) ∧ decodeTableWord 16 0x165 = some .hexLE := by
  decide

theorem test_staged_select :
    nextState (step (State.reset.withFetchWord 8 9)) = some { runAt 80 0 with status := .done } ∧
    decodeTableWord 8 9 = some (.selG9 0) := by decide

/-! ### Witnesses: the hypotheses of the obligations can be met -/

theorem witness_states_of_the_block :
    State.reset.legal = true ∧ stB.legal = true ∧ stD.legal = true ∧ stX.legal = true ∧ dirtyStart.legal = true ∧
    (runAt 79 1).legal = true := by decide

theorem witness_NopKeepsEveryRegister : stB.legal = true ∧ stD.legal = true ∧ stX.legal = true := by decide

theorem witness_EndRaisesShortInputInRun :
    (stB.legal = true ∧ stB.status = .run) ∧ ((runAt 79 1).legal = true ∧ (runAt 79 1).status = .run) ∧
    (stD.legal = true ∧ stD.status ≠ .run) ∧ (stX.legal = true ∧ stX.status ≠ .run) := by decide

theorem witness_DecimalDigitsShiftIn :
    ((runAt 7 1).legal = true ∧ (runAt 7 1).status = .run) ∧ ((runAt 79 1).legal = true ∧ (runAt 79 1).status = .run) ∧
    (stD.legal = true ∧ stD.status ≠ .run) := by decide

theorem witness_LowerCaseDigitsShiftIn :
    ((runAt 0 0).legal = true ∧ (runAt 0 0).status = .run) ∧ (stX.legal = true ∧ stX.status ≠ .run) := by decide

theorem witness_UpperCaseDigitsShiftIn :
    ((runAt 78 1).legal = true ∧ (runAt 78 1).status = .run) ∧ (stX.legal = true ∧ stX.status ≠ .run) := by decide

theorem witness_DigitMovesTheAccumulatorUp :
    ((runAt 79 0xffffffff).legal = true ∧ (runAt 79 0xffffffff).status = .run ∧ hexVal 0x66 = some 15) ∧
    (stB.legal = true ∧ stB.status = .run ∧ hexVal 0x30 = some 0 ∧ stB.cnt.toNat % 8 ≠ 7) := by decide

theorem witness_NonDigitRaisesNonHexInRun :
    (stB.legal = true ∧ hexVal 0x67 = none ∧ stB.status = .run) ∧ (stD.legal = true ∧ hexVal 0x2f = none ∧ stD.status ≠ .run)
    := by decide

theorem witness_ScalarSelectsWriteTheirFields : ∀ c ∈ [7#7, 15#7],
    (runAt c 1).legal = true ∧ (runAt c 1).status = .run ∧ hexVal 0x41 = some 10 ∧ (runAt c 1).cnt = c := by decide

theorem witness_SourceSelectsWriteTheirPair : ∀ c ∈ [23#7, 31#7, 39#7, 47#7],
    (runAt c 1).legal = true ∧ (runAt c 1).status = .run ∧ hexVal 0x41 = some 10 ∧ (runAt c 1).cnt = c := by decide

theorem witness_DestinationSelectsWriteTheirPair : ∀ c ∈ [55#7, 63#7, 71#7, 79#7],
    (runAt c 1).legal = true ∧ (runAt c 1).status = .run ∧ hexVal 0x41 = some 10 ∧ (runAt c 1).cnt = c := by decide

theorem witness_MuxArrayFiresTheSelectOfTheGroup :
    ((runAt 79 1).legal = true ∧ (runAt 79 1).status = .run ∧ hexVal 0x39 = some 9 ∧
      (runAt 79 1).cnt.extractLsb' 0 3 = 7#3) ∧
    ((runAt 78 1).legal = true ∧ (runAt 78 1).status = .run ∧ hexVal 0x39 = some 9 ∧
      (runAt 78 1).cnt.extractLsb' 0 3 ≠ 7#3) := by decide

/-- The four clauses at both ends of their ranges of positions. -/
theorem witness_FieldRegistersKeepTheirValueOtherwise :
    (nextState (clockEdge (runAt 7 0x1111111) (charSample 0x31))).map (·.version) ≠ some 0 ∧
    (nextState (clockEdge (runAt 15 0x1111111) (charSample 0x31))).map (·.hopLimit) ≠ some 0 ∧
    (nextState (clockEdge (runAt 23 0x1111111) (charSample 0x31))).map (·.src[0]) ≠ some 0 ∧
    (nextState (clockEdge (runAt 47 0x1111111) (charSample 0x31))).map (·.src[7]) ≠ some 0 ∧
    (nextState (clockEdge (runAt 55 0x1111111) (charSample 0x31))).map (·.dst[0]) ≠ some 0 ∧
    (nextState (clockEdge (runAt 79 0x1111111) (charSample 0x31))).map (·.dst[7]) ≠ some 0 ∧
    (charSample 0x31).rst = false ∧ (charSample 0x31).cmd ≠ 3#2 := by decide

/-- One state or sample for each clause of the table: END and a non-digit in RUN, the last two positions, DONE, ERR. -/
theorem witness_SequencerFollowsItsTable :
    ((runAt 78 1).legal = true ∧ (runAt 78 1).status = .run ∧ (runAt 78 1).cnt ≤ 78#7) ∧
    ((runAt 79 1).legal = true ∧ (runAt 79 1).status = .run ∧ (runAt 79 1).cnt = 79#7) ∧
    (stD.legal = true ∧ stD.status = .done) ∧ (stX.legal = true ∧ stX.status ≠ .run) ∧
    startSample.cmd = 3#2 ∧ (endSample.rst = false ∧ endSample.cmd = 2#2) ∧ (idleSample.rst = false ∧ idleSample.cmd = 0#2) ∧
    ((charSample 0x67).rst = false ∧ (charSample 0x67).cmd = 1#2 ∧ hexVal (charSample 0x67).data = none) ∧
    ((charSample 0x66).cmd = 1#2 ∧ (hexVal (charSample 0x66).data).isSome = true) := by decide

theorem witness_StepRunsTheDecodedCommand :
    ((stB.withInputs [charSample 0x65]).inputs = charSample 0x65 :: [] ∧ (charSample 0x65).rst = false ∧
      decode (.command ((charSample 0x65).cmd ++ (charSample 0x65).data)) = .ok .hexLE) ∧
    ((stB.withInputs [charSample 0x67]).inputs = charSample 0x67 :: [] ∧ (charSample 0x67).rst = false ∧
      decode (.command ((charSample 0x67).cmd ++ (charSample 0x67).data)) = .error (.nonDigitSymbol 0x67)) ∧
    ((stB.withInputs [⟨true, 2, 0⟩]).inputs = ⟨true, 2, 0⟩ :: []) ∧ stB.inputs = [] := by decide

theorem witness_StagedRowIsTheNextStep :
    decodeTableWord 16 0 = some .nop ∧ decodeTableWord 16 0x3ff = some .start ∧ decodeTableWord 8 0 = some (.selG0 0) ∧
    decodeTableWord 8 9 = some (.selG9 0) := by decide

theorem witness_DecodeAndEncodeAgree :
    (Instr.sliceDst7 0xffffffff).wellFormed = true ∧ decode (.command 0x3ff#10) = .ok .start ∧
    decode (.command 0x146#10) = .ok .hexUF ∧ decode (.select 9#4 0xffffffff#32) = .ok (.selG9 0xffffffff) ∧
    decode (.field 0#4 .f 0xffffffff#32) = .ok (.extFlowLabel 0xffffffff) := by decide

/-- Both ends of the three ranges of digits and the codes beside them. -/
theorem witness_HexValIsTheDigitValue :
    (hexVal 0x30 = some 0 ∧ hexVal 0x39 = some 9) ∧ (hexVal 0x41 = some 10 ∧ hexVal 0x46 = some 15) ∧
    (hexVal 0x61 = some 10 ∧ hexVal 0x66 = some 15) ∧
    ∀ c ∈ [0x2f#8, 0x3a#8, 0x40#8, 0x47#8, 0x60#8, 0x67#8, 0x00#8, 0xff#8], hexVal c = none := by decide

/-- A state in RUN before the last digit: every field register but DST[6] and DST[7] is committed. -/
def beforeLast : State :=
  { stD with status := .run, cnt := 79, acc := 0x11111111, dst := #v[1, 2, 3, 4, 5, 6, 0, 0] }

theorem witness_StepKeepsTheInvariants : stB.Inv ∧ stD.Inv ∧ stX.Inv ∧ beforeLast.Inv := by
  refine ⟨⟨by decide, ⟨?_, ?_, ?_, ?_⟩, ?_⟩, ⟨by decide, ⟨?_, ?_, ?_, ?_⟩, ?_⟩, ⟨by decide, ⟨?_, ?_, ?_, ?_⟩, ?_⟩,
    ⟨by decide, ⟨?_, ?_, ?_, ?_⟩, ?_⟩⟩ <;> first | decide | (unfold State.unfilledZero; decide)

theorem witness_StepIsTheStepOfR108 : beforeLast.legal = true ∧ stX.legal = true ∧ stD.legal = true := by decide

theorem witness_AfterTheEndNothingChanges :
    stX.legal = true ∧ stX.status ≠ .run ∧ stD.legal = true ∧ stD.status ≠ .run ∧
    ∀ p ∈ [charSample 0x30, charSample 0x7a, endSample, idleSample], p.rst = false ∧ p.cmd ≠ 3#2 := by decide

/-- A ParseError of each cause, raised at the first and at the last position, and the premises of the last clause. -/
theorem witness_ParseErrorWritesThreeRegisters :
    (nextState (clockEdge State.reset endSample)).map (·.status) = some .err ∧
    (nextState (clockEdge (runAt 79 1) (charSample 0x67))).map (·.status) = some .err ∧
    State.reset.status ≠ .err ∧ (runAt 79 1).status ≠ .err ∧
    ((runAt 79 1).legal = true ∧ (runAt 79 1).status = .run ∧ (charSample 0x67).rst = false ∧
      (charSample 0x67).cmd = 1#2 ∧ hexVal (charSample 0x67).data = none) := by decide

theorem witness_FirstErrorIsReported :
    stB.legal = true ∧ stB.status = .run ∧
    clockEdge stB endSample = .next (stB.raiseParseError .shortInput 5) ∧
    (stB.raiseParseError .shortInput 5).status = .err ∧
    ∀ q ∈ [charSample 0x67, endSample], q.rst = false ∧ q.cmd ≠ 3#2 := by
  refine ⟨by decide, by decide, rfl, rfl, by decide⟩

theorem witness_RecordBecomesVisibleAtOnce :
    (nextState (clockEdge (runAt 79 1) (charSample 0x66))).map State.recValid = some 1 ∧ (runAt 79 1).recValid = 0 ∧
    (runAt 79 1).legal = true ∧ (runAt 79 1).status = .run ∧ (runAt 79 1).cnt = 79#7 ∧
    (hexVal 0x66).isSome = true := by decide

/-- The first and the last group. -/
theorem witness_GroupWordIsItsEightNibbles :
    (dirtyStart.legal = true ∧ dirtyStart.status = .run ∧ dirtyStart.cnt.extractLsb' 0 3 = 0#3) ∧
    ((runAt 72 0xdeadbeef).legal = true ∧ (runAt 72 0xdeadbeef).status = .run ∧
      (runAt 72 0xdeadbeef).cnt.extractLsb' 0 3 = 0#3) ∧
    hexVal 0x38 = some 8 ∧ hexVal 0x61 = some 10 ∧ hexVal 0x46 = some 15 := by decide

theorem witness_RecordDoesNotDependOnTheStart :
    dirtyStart.legal = true ∧ State.reset.legal = true ∧ dirtyStart.status = .run ∧ State.reset.status = .run ∧
    dirtyStart.cnt = 0#7 ∧ State.reset.cnt = 0#7 ∧ dirtyStart ≠ State.reset := by decide

/-- The program DECODE of the text of 80 zeros with a NOP in it, and its shortest prefix that gives the record. -/
theorem witness_MachineAgreesWithDecodeOnSuccess :
    stX.legal = true ∧ decodeText zeroText = .ok State.reset.fieldRegisters ∧
    withoutNops (idleSample :: decodeProgram zeroText) = decodeProgram zeroText ∧
    withoutNops (idleSample :: openProgram zeroText) <+: decodeProgram zeroText ∧
    81 ≤ (withoutNops (idleSample :: openProgram zeroText)).length := by
  decide +kernel

/-- A non-digit at position 79, seen from its own step on; a short text with and without END; a text of 80 digits. -/
theorem witness_MachineAgreesWithDecodeOnErrors :
    stD.legal = true ∧ decodeText (zeroText.set 79 0x67) = .error .nonHex 79 ∧
    withoutNops (openProgram (zeroText.set 79 0x67)) <+: decodeProgram (zeroText.set 79 0x67) ∧
    79 + 2 ≤ (withoutNops (openProgram (zeroText.set 79 0x67))).length ∧
    decodeText [0x36, 0x30] = .error .shortInput 2 ∧
    withoutNops (idleSample :: decodeProgram [0x36, 0x30]) = decodeProgram [0x36, 0x30] ∧
    withoutNops (idleSample :: openProgram [0x36, 0x30]) = openProgram [0x36, 0x30] ∧
    withoutNops (idleSample :: decodeProgram zeroText) = decodeProgram zeroText := by
  decide +kernel

theorem witness_DecodeAndEncodeTextRoundTrip :
    (zeroText.set 79 0x46).length = 80 ∧ (∀ c ∈ zeroText.set 79 0x46, (hexVal c).isSome = true) ∧
    (zeroText.set 79 0x66).length = 80 ∧ (∀ c ∈ zeroText.set 79 0x66, (hexVal c).isSome = true) ∧
    (zeroText.set 79 0x46).map lowerCase = (zeroText.set 79 0x66).map lowerCase := by
  decide +kernel

theorem witness_ExcessCharactersAreIgnored :
    80 ≤ zeroText.length ∧ (∃ c ∈ (zeroText.set 79 0x67).take 80, hexVal c = none) ∧
    ((zeroText.take 79).length < 80 ∧ (∀ c ∈ zeroText.take 79, (hexVal c).isSome = true) ∧ ([0x31] : Text) ≠ [] ∧
      ∀ c ∈ ([0x31] : Text), (hexVal c).isSome = true) ∧
    (stD.legal = true ∧ stD.status ≠ .run ∧ endSample.rst = false ∧ endSample.cmd ≠ 3#2) := by
  decide +kernel

theorem witness_LetterCaseDoesNotMatter :
    ([0x41, 0x67] : Text).map lowerCase = ([0x61, 0x67] : Text).map lowerCase ∧ ([0x41, 0x67] : Text) ≠ [0x61, 0x67] := by
  decide

/-- A record, a running invocation and a ParseError are observed somewhere. -/
theorem witness_HostObservesOneOfThree :
    stB.observe = .running ∧ stD.observe = .record stD.fieldRegisters ∧ stX.observe = .parseError .nonHex 7 := by decide

/-- The widest and the narrowest field, both at an end of the word. -/
theorem witness_ExtractIsTheBitSlice : (1 ≤ 32 ∧ 0 + 32 ≤ 32) ∧ (1 ≤ 1 ∧ 31 + 1 ≤ 32) := by decide

theorem witness_ExtractionLosesNoBit :
    0x6abcdef0#32 = 6#4 ++ 0xab#8 ++ 0xcdef0#20 ∧ 0x12341140#32 = 0x1234#16 ++ 0x11#8 ++ 0x40#8 ∧
    0x20010db8#32 = 0x2001#16 ++ 0x0db8#16 := by decide

/-- A state for each way to break R32 (b) to (d), and the ends of the range of keys. -/
theorem witness_StatesThatAreNotTheBlocksAreRefused :
    (runAt 80 0).legal = false ∧ ({ stD with cnt := 79 } : State).legal = false ∧
    ({ stX with errPos := 6 } : State).legal = false ∧ ({ stX with errCause := .noError } : State).legal = false ∧
    ({ stB with errCause := .nonHex } : State).legal = false ∧ ({ stB with errPos := 1 } : State).legal = false ∧
    10 ≤ (10#4).toNat ∧ 10 ≤ (15#4).toNat := by decide

end Sys2Proof.Tests
end

section
/-! Scope (00_scope.md): the two status ports, the record and the observation, each read off STATE, and what the host can
observe. -/

namespace Sys2Proof.Machine

variable (s : State)

@[simp] theorem State.outputs_recValid : s.outputs.recValid = s.recValid := rfl
@[simp] theorem State.outputs_err : s.outputs.err = s.err := rfl
@[simp] theorem State.outputs_errPos : s.outputs.errPos = s.errPos := rfl

@[simp] theorem State.recValid_eq_one_iff : s.recValid = 1#1 ↔ s.status = .done := by
  unfold State.recValid
  split <;> simp [*]

@[simp] theorem State.recValid_eq_zero_iff : s.recValid = 0#1 ↔ s.status ≠ .done := by
  unfold State.recValid
  split <;> simp [*]

@[simp] theorem State.err_eq_one_iff : s.err = 1#1 ↔ s.status = .err := by
  unfold State.err
  split <;> simp [*]

@[simp] theorem State.err_eq_zero_iff : s.err = 0#1 ↔ s.status ≠ .err := by
  unfold State.err
  split <;> simp [*]

/-- The status has no fourth value (R28): what is neither DONE nor ERR is RUN. -/
theorem Status.eq_run_iff (x : Status) : x = .run ↔ x ≠ .done ∧ x ≠ .err := by
  cases x <;> decide

theorem State.observe_eq_running_iff : s.observe = .running ↔ s.status = .run := by
  unfold State.observe
  split <;> simp [*]

theorem State.observe_eq_record_iff (r : HeaderRecord) :
    s.observe = .record r ↔ s.status = .done ∧ r = s.fieldRegisters := by
  unfold State.observe
  split <;> simp [*, @eq_comm _ r]

theorem State.observe_eq_parseError_iff (c : ErrCause) (n : Nat) :
    s.observe = .parseError c n ↔ s.status = .err ∧ c = s.errCause ∧ n = s.errPos.toNat := by
  unfold State.observe
  split <;> simp [*, @eq_comm _ c, @eq_comm _ n]

theorem State.record_eq_some_iff (r : HeaderRecord) :
    s.record = some r ↔ s.status = .done ∧ r = s.fieldRegisters := by
  unfold State.record
  split <;> simp [*, @eq_comm _ r]

/-- Settles O43: each observation and each port comparison says one value of STATE, and the record and the observed record
say the same of STATE and the field registers. -/
theorem hostObservesOneOfThree : Obligations.HostObservesOneOfThree := by
  intro s
  refine ⟨?running, fun r => ?record, fun c n => ?parseError, fun r => ?recordExists⟩
  case running => simp [s.observe_eq_running_iff, s.status.eq_run_iff]
  case record => simp [s.observe_eq_record_iff]
  case parseError => simp [s.observe_eq_parseError_iff]
  case recordExists => rw [s.record_eq_some_iff, s.observe_eq_record_iff]

end Sys2Proof.Machine
end

section
/-! Architectural state (10_state.md): what a cleared state, a ParseError and an accepted digit do to the invariants of R32,
and that the clock edge keeps them. -/

namespace Sys2Proof.Machine

/-! ### What the invariants do not look at -/

theorem State.inv_takeSample (s : State) : s.takeSample.Inv ↔ s.Inv := Iff.rfl

theorem State.uncommittedZero_raiseParseError (s : State) (c : ErrCause) (p : Position) :
    (s.raiseParseError c p).uncommittedZero ↔ s.uncommittedZero := Iff.rfl

theorem State.unfilledZero_raiseParseError (s : State) (c : ErrCause) (p : Position) :
    (s.raiseParseError c p).unfilledZero ↔ s.unfilledZero := Iff.rfl

/-! ### A cleared state and a raised ParseError -/

theorem State.inv_clear (s : State) : s.clear.Inv :=
  ⟨s.legal_clear, by simp [State.uncommittedZero], by simp [State.unfilledZero]⟩

theorem State.clear_reset : State.reset.clear = State.reset := rfl

theorem State.inv_raiseParseError {s : State} (h : s.Inv) (hr : s.status = .run) {c : ErrCause} (hc : c ≠ .noError) :
    (s.raiseParseError c s.cnt).Inv := by
  obtain ⟨hlegal, hzero, hunfilled⟩ := h
  exact ⟨State.legal_raiseParseError hlegal hr hc, (s.uncommittedZero_raiseParseError c s.cnt).mpr hzero,
    (s.unfilledZero_raiseParseError c s.cnt).mpr hunfilled⟩

/-! ### An accepted digit -/

theorem position_succ_toNat {cnt : Position} (h : cnt ≤ 79#7) : (cnt + 1#7).toNat = cnt.toNat + 1 := by
  bv_omega

theorem getLsbD_shiftIn_add_four (acc : Word) (d : Nibble) (j : Nat) :
    (shiftIn acc d).getLsbD (j + 4) = (decide (j < 28) && acc.getLsbD j) := by
  refine BitVec.getLsbD_append.trans ?_
  simp

/-- A digit moves the filled part of ACC up by its four bits (R121). -/
theorem shiftIn_shiftRight {acc : Word} {n : Nat} (h : acc >>> n = 0) (d : Nibble) : shiftIn acc d >>> (n + 4) = 0 := by
  apply BitVec.eq_of_getLsbD_eq
  intro i _
  have hbit : acc.getLsbD (n + i) = false := by simpa using congrArg (·.getLsbD i) h
  rw [BitVec.getLsbD_ushiftRight, Nat.add_right_comm, getLsbD_shiftIn_add_four, hbit]
  simp

/-- CNT only grows, so a register that must still be 0 after the digit had to be 0 before it. -/
theorem State.uncommittedZero_advance {s : State} (h : s.uncommittedZero) (hcnt : s.cnt ≤ 79#7) (w : Word) :
    (s.advance w).uncommittedZero := by
  obtain ⟨hgroup0, hgroup1, hsrc, hdst⟩ := h
  have hsucc := position_succ_toNat hcnt
  simp only [State.uncommittedZero, State.advance_cnt, hsucc]
  exact ⟨fun hlt => hgroup0 (by omega), fun hlt => hgroup1 (by omega), fun k hlt => hsrc k (by omega),
    fun k hlt => hdst k (by omega)⟩

/-- The select of a group whose eight digits are counted writes no register that must still be 0. -/
theorem State.uncommittedZero_referenceCommit {s : State} (h : s.uncommittedZero) {g : Nat} (hg : g ≤ 9)
    (hcnt : 8 * g + 8 ≤ s.cnt.toNat) (w : Word) : (referenceCommit s g w).uncommittedZero := by
  obtain ⟨hgroup0, hgroup1, hsrc, hdst⟩ := h
  obtain ⟨hversion, htrafficClass, hflowLabel⟩ := referenceCommit_group0 s g w
  obtain ⟨hpayloadLength, hnextHeader, hhopLimit⟩ := referenceCommit_group1 s g w
  simp only [State.uncommittedZero, referenceCommit_cnt]
  refine ⟨fun hlt => ?group0, fun hlt => ?group1, fun k hlt => ?src, fun k hlt => ?dst⟩
  case group0 =>
    have hne : g ≠ 0 := by omega
    simpa [hversion, htrafficClass, hflowLabel, hne] using hgroup0 hlt
  case group1 =>
    have hne : g ≠ 1 := by omega
    simpa [hpayloadLength, hnextHeader, hhopLimit, hne] using hgroup1 hlt
  case src =>
    have hne : g ≠ 2 + k.val / 2 := by omega
    rw [referenceCommit_src s w k hg, if_neg hne]
    exact hsrc k hlt
  case dst =>
    have hne : g ≠ 6 + k.val / 2 := by omega
    rw [referenceCommit_dst s w k hg, if_neg hne]
    exact hdst k hlt

theorem State.uncommittedZero_afterDigit {s : State} (h : s.uncommittedZero) (hcnt : s.cnt ≤ 79#7) (d : Nibble) :
    (s.afterDigit d).uncommittedZero := by
  have hadvance := State.uncommittedZero_advance h hcnt (shiftIn s.acc d)
  unfold State.afterDigit
  split
  · rename_i heighth
    have hkey : (groupIndex s.cnt).toNat ≤ 9 := groupIndex_le hcnt
    have hcompleted : 8 * (groupIndex s.cnt).toNat + 8 ≤ (s.advance (shiftIn s.acc d)).cnt.toNat := by
      have hdigit : s.cnt.toNat % 8 = 7 := by rw [← digitIndex_toNat, heighth]; rfl
      rw [State.advance_cnt, position_succ_toNat hcnt, groupIndex_toNat]
      omega
    exact State.uncommittedZero_referenceCommit hadvance hkey hcompleted _
  · exact hadvance

theorem State.unfilledZero_afterDigit {s : State} (h : s.unfilledZero) (hcnt : s.cnt ≤ 79#7) (d : Nibble) :
    (s.afterDigit d).unfilledZero := by
  intro hlt
  rw [State.afterDigit_cnt, position_succ_toNat hcnt] at hlt ⊢
  rw [State.afterDigit_acc]
  exact shiftIn_shiftRight (h (by omega)) d

theorem State.inv_afterDigit {s : State} (h : s.Inv) (hr : s.status = .run) (d : Nibble) : (s.afterDigit d).Inv := by
  obtain ⟨hlegal, hzero, hunfilled⟩ := h
  obtain ⟨hcnt, -, -⟩ := s.legal_run hlegal hr
  exact ⟨State.legal_afterDigit hlegal hr d, State.uncommittedZero_afterDigit hzero hcnt d,
    State.unfilledZero_afterDigit hunfilled hcnt d⟩

/-! ### The clock edge -/

theorem clockEdge_keeps_inv {s t : State} {p : InputSample} (h : clockEdge s p = .next t) (hi : s.Inv) : t.Inv := by
  obtain ⟨rfl, -⟩ | ⟨-, -, rfl, -⟩ | ⟨-, -, hr, -, rfl⟩ | ⟨-, -, hr, -, -, rfl⟩ | ⟨-, -, hr, -, d, -, rfl⟩ :=
    clockEdge_next h
  · exact s.inv_clear
  · exact hi
  · exact State.inv_raiseParseError hi hr (by decide)
  · exact State.inv_raiseParseError hi hr (by decide)
  · exact State.inv_afterDigit hi hr d

theorem clockEdge_total_inv {s : State} (hi : s.Inv) (p : InputSample) : ∃ t, clockEdge s p = .next t ∧ t.Inv := by
  obtain ⟨t, ht, -⟩ := clockEdge_total hi.1 p
  exact ⟨t, ht, clockEdge_keeps_inv ht hi⟩

/-- Settles O28: taking the sample touches no register the invariants read, and the clock edge keeps both the states of
the block and, case by case over what it can answer, all the invariants. -/
theorem stepKeepsTheInvariants : Obligations.StepKeepsTheInvariants :=
  ⟨fun s h => clockEdge_total (s.legal_takeSample.trans h) s.nextSample,
    fun s h => clockEdge_total_inv (s.inv_takeSample.mpr h) s.nextSample⟩

/-- Settles O27: the reset state is a cleared state (R241). -/
theorem resetStateMeetsTheInvariants : Obligations.ResetStateMeetsTheInvariants := by
  have hclear := State.inv_clear State.reset
  rwa [State.clear_reset] at hclear

end Sys2Proof.Machine
end

section
/-! Group words and field registers (20_memory.md): the digit that completes group 9 and makes the record visible, and the
fields of the record as the nibbles of their own characters. -/

namespace Sys2Proof.Machine

/-! ### The digit that completes group 9 -/

/-- The digit at position 79 (R58, R106): the last word goes to the last two address groups, CNT becomes 80 and STATE
becomes DONE, all in one step. -/
theorem State.afterDigit_of_cnt_eq_79 {s : State} (h : s.cnt = 79#7) (d : Nibble) :
    s.afterDigit d = { s with
      acc := shiftIn s.acc d, cnt := 80#7, status := .done
      dst := (s.dst.set 6 ((shiftIn s.acc d).extractLsb' 16 16)).set 7 ((shiftIn s.acc d).extractLsb' 0 16) } := by
  have heighth : digitIndex s.cnt = 7#3 := by rw [h]; rfl
  have hgroup : (groupIndex s.cnt).toNat = 9 := by rw [h]; rfl
  rw [State.afterDigit, if_pos heighth, hgroup]
  simp [referenceCommit, State.advance, statusAfterDigit, h, setIfInBounds_eq_set]

theorem statusAfterDigit_run_eq_done_iff (cnt : Position) : statusAfterDigit cnt .run = .done ↔ cnt = 79#7 := by
  unfold statusAfterDigit
  split <;> simp [*]

/-- Of all that a clock edge can do, only the digit at position 79 makes the record visible. -/
theorem clockEdge_raises_recValid {s t : State} {p : InputSample} (h : clockEdge s p = .next t)
    (hs : s.status ≠ .done) (ht : t.status = .done) :
    p.rst = false ∧ p.cmd = Config.cmdChar ∧ s.status = .run ∧ s.cnt = 79#7 ∧
      ∃ d, hexVal p.data = some d ∧ t = s.afterDigit d := by
  obtain ⟨rfl, -⟩ | ⟨-, -, rfl, -⟩ | ⟨-, -, -, -, rfl⟩ | ⟨-, -, -, -, -, rfl⟩ |
    ⟨hrst, -, hrun, hcmd, d, hd, rfl⟩ := clockEdge_next h
  · cases ht
  · exact absurd ht hs
  · cases ht
  · cases ht
  · rw [State.afterDigit_status, hrun, statusAfterDigit_run_eq_done_iff] at ht
    exact ⟨hrst, hcmd, hrun, ht, d, hd, rfl⟩

theorem clockEdge_charSample {s : State} (h : s.legal = true) (hr : s.status = .run) {c : Symbol} {d : Nibble}
    (hd : hexVal c = some d) : clockEdge s (charSample c) = .next (s.afterDigit d) := by
  rw [clockEdge_char s rfl rfl]
  simp only [charSample, hd]
  exact State.acceptDigit_eq h hr d

/-- Settles O33: what a clock edge can do leaves the digit at position 79 as the only way to DONE, and that digit is always
accepted. -/
theorem recordBecomesVisibleAtOnce : Obligations.RecordBecomesVisibleAtOnce := by
  refine ⟨fun s t p hedge hs ht => ?raises, fun s c hlegal hrun hcnt hdigit => ?accepted⟩
  case raises =>
    obtain ⟨hrst, hcmd, hrun, hcnt, d, hd, rfl⟩ :=
      clockEdge_raises_recValid hedge (s.recValid_eq_zero_iff.mp hs) (t.recValid_eq_one_iff.mp ht)
    exact ⟨hrst, hcmd, hrun, hcnt, d, hd, State.afterDigit_of_cnt_eq_79 hcnt d⟩
  case accepted =>
    obtain ⟨d, hd⟩ := Option.isSome_iff_exists.mp hdigit
    refine ⟨s.afterDigit d, clockEdge_charSample hlegal hrun hd, ?_⟩
    rw [State.afterDigit_of_cnt_eq_79 hcnt d]
    exact ⟨rfl, rfl, rfl⟩

/-! ### The fields as nibbles of the text -/

theorem getElem_groupWords (t : Text) (g : Nat) (hg : g < 10) : (groupWords t)[g] = groupWord t g := by
  simp [groupWords]

/-- The four nibbles from text position i on, first highest. -/
def addrGroupAt (t : Text) (i : Nat) : AddrGroup :=
  nibbleAt t i ++ nibbleAt t (i + 1) ++ nibbleAt t (i + 2) ++ nibbleAt t (i + 3)

/-- The nibbles of a group word gathered by the fields of format G0: v, t and f (R78). -/
theorem groupWord_eq_formatG0 (t : Text) (g : Nat) :
    groupWord t g = nibbleAt t (8 * g) ++ (nibbleAt t (8 * g + 1) ++ nibbleAt t (8 * g + 2)) ++
      (nibbleAt t (8 * g + 3) ++ nibbleAt t (8 * g + 4) ++ nibbleAt t (8 * g + 5) ++ nibbleAt t (8 * g + 6) ++
        nibbleAt t (8 * g + 7)) := by
  iterate 5 rw [BitVec.append_assoc']
  rfl

/-- The nibbles of a group word gathered by the fields of format G1: p, n and h (R79). -/
theorem groupWord_eq_formatG1 (t : Text) (g : Nat) :
    groupWord t g = addrGroupAt t (8 * g) ++ (nibbleAt t (8 * g + 4) ++ nibbleAt t (8 * g + 5)) ++
      (nibbleAt t (8 * g + 6) ++ nibbleAt t (8 * g + 7)) := by
  iterate 2 rw [BitVec.append_assoc']
  rfl

/-- The nibbles of a group word gathered by the fields of format GA: h and l (R80). -/
theorem groupWord_eq_formatGA (t : Text) (g : Nat) :
    groupWord t g = addrGroupAt t (8 * g) ++ addrGroupAt t (8 * g + 4) := by
  unfold addrGroupAt
  iterate 3 rw [BitVec.append_assoc']
  rfl

/-- The three parts of a word put together from three, by their places in it. -/
theorem extractLsb'_append_append {m n k : Nat} (a : BitVec m) (b : BitVec n) (c : BitVec k) :
    (a ++ b ++ c).extractLsb' (k + n) m = a ∧ (a ++ b ++ c).extractLsb' k n = b ∧ (a ++ b ++ c).extractLsb' 0 k = c := by
  refine ⟨?_, ?_, BitVec.extractLsb'_append_eq_right⟩
  · rw [BitVec.extractLsb'_append_eq_of_le (by omega), Nat.add_sub_cancel_left, BitVec.extractLsb'_append_eq_left]
  · rw [BitVec.extractLsb'_append_eq_of_le (by omega), Nat.sub_self, BitVec.extractLsb'_append_eq_right]

theorem groupWord_highHalf (t : Text) (g : Nat) : (groupWord t g).extractLsb' 16 16 = addrGroupAt t (8 * g) := by
  rw [groupWord_eq_formatGA, BitVec.extractLsb'_append_eq_left]

theorem groupWord_lowHalf (t : Text) (g : Nat) : (groupWord t g).extractLsb' 0 16 = addrGroupAt t (8 * g + 4) := by
  rw [groupWord_eq_formatGA, BitVec.extractLsb'_append_eq_right]

/-- Four group words in a row give the eight address groups of 32 text positions in a row. -/
theorem addressOf_groupWord (t : Text) (g : Nat) (k : Fin 8) :
    (addressOf (groupWord t g) (groupWord t (g + 1)) (groupWord t (g + 2)) (groupWord t (g + 3)))[k] =
      addrGroupAt t (8 * g + 4 * k) := by
  revert k
  simp [addressOf, groupWord_highHalf, groupWord_lowHalf, Fin.forall_fin_succ, Nat.mul_add]

/-- Settles O41: the nibbles of each group word are gathered by the fields of its format, so that each field of the record,
a slice of the word, is one of the parts. -/
theorem fieldsAreNibblesOfTheirPositions : Obligations.FieldsAreNibblesOfTheirPositions := by
  intro t
  obtain ⟨hversion, htrafficClass, hflowLabel⟩ := extractLsb'_append_append (nibbleAt t 0)
    (nibbleAt t 1 ++ nibbleAt t 2) (nibbleAt t 3 ++ nibbleAt t 4 ++ nibbleAt t 5 ++ nibbleAt t 6 ++ nibbleAt t 7)
  obtain ⟨hpayloadLength, hnextHeader, hhopLimit⟩ := extractLsb'_append_append (addrGroupAt t 8)
    (nibbleAt t 12 ++ nibbleAt t 13) (nibbleAt t 14 ++ nibbleAt t 15)
  have hG0 : (groupWords t)[0] = _ := (getElem_groupWords t 0 (by decide)).trans (groupWord_eq_formatG0 t 0)
  have hG1 : (groupWords t)[1] = _ := (getElem_groupWords t 1 (by decide)).trans (groupWord_eq_formatG1 t 1)
  simp only [recordOf, hG0, hG1, getElem_groupWords]
  refine ⟨hversion, htrafficClass, hflowLabel, hpayloadLength, hnextHeader, hhopLimit, fun k => ⟨?src, ?dst⟩⟩
  case src => simpa [addrGroupAt, Nat.add_right_comm] using addressOf_groupWord t 2 k
  case dst => simpa [addrGroupAt, Nat.add_right_comm] using addressOf_groupWord t 6 k

end Sys2Proof.Machine
end

section
/-! Encoding (30_encoding.md): what the decoder answers for each kind of word and that the encoder inverts it; how the
command words divide; which select a completed group fires, and so what a staged row does; what is refused; the packed
addresses. -/

namespace Sys2Proof.Machine

/-! ### What the decoder answers -/

section
variable {w : CommandWord}

theorem decode_command_nop (h : w.extractLsb' 8 2 = Config.cmdNop) : decode (.command w) = .ok .nop := by
  rw [decode, decodeCommand, if_pos h]

theorem decode_command_char (h : w.extractLsb' 8 2 = Config.cmdChar) :
    decode (.command w) = decodeSymbol (w.extractLsb' 0 8) := by
  rw [decode, decodeCommand, if_neg (by rw [h]; decide), if_pos h]

theorem decode_command_end (h : w.extractLsb' 8 2 = Config.cmdEnd) : decode (.command w) = .ok .endText := by
  rw [decode, decodeCommand, if_neg (by rw [h]; decide), if_neg (by rw [h]; decide), if_pos h]

theorem decode_command_start (h : w.extractLsb' 8 2 = Config.cmdStart) : decode (.command w) = .ok .start := by
  rw [decode, decodeCommand, if_neg (by rw [h]; decide), if_neg (by rw [h]; decide), if_neg (by rw [h]; decide)]

end

/-- The three ranges of digit codes are those of HexVal (R120, R145). -/
theorem isDigitSymbol_eq_isSome_hexVal (c : Symbol) : isDigitSymbol c = (hexVal c).isSome := by
  unfold isDigitSymbol hexVal
  split_ifs <;> simp_all

theorem exists_decodeSymbol_iff (c : Symbol) : (∃ i, decodeSymbol c = .ok i) ↔ isDigitSymbol c = true := by
  rw [isDigitSymbol_eq_isSome_hexVal]
  cases hc : hexVal c with
  | none => simp [decodeSymbol_of_hexVal_none hc]
  | some d =>
    obtain ⟨i, hi, -⟩ := decodeSymbol_of_hexVal_some hc
    simp [hi]

theorem exists_decode_command_iff (w : CommandWord) :
    (∃ i, decode (.command w) = .ok i) ↔ (Code.command w).wellFormed = true := by
  rcases cmd_cases (w.extractLsb' 8 2) with h | h | h | h
  · simp [decode_command_nop h, Code.wellFormed, h, Config.cmdNop, Config.cmdChar]
  · rw [decode_command_char h, exists_decodeSymbol_iff]
    simp [Code.wellFormed, h]
  · simp [decode_command_end h, Code.wellFormed, h, Config.cmdEnd, Config.cmdChar]
  · simp [decode_command_start h, Code.wellFormed, h, Config.cmdStart, Config.cmdChar]

/-- The ten group keys (R85). -/
theorem groupKey_cases {key : GroupKey} (h : key ≤ 9#4) :
    key = 0#4 ∨ key = 1#4 ∨ key = 2#4 ∨ key = 3#4 ∨ key = 4#4 ∨ key = 5#4 ∨ key = 6#4 ∨ key = 7#4 ∨ key = 8#4 ∨
      key = 9#4 := by
  bv_omega

theorem exists_decode_select {key : GroupKey} (h : key ≤ 9#4) (w : Word) : ∃ i, decode (.select key w) = .ok i := by
  rcases groupKey_cases h with rfl | rfl | rfl | rfl | rfl | rfl | rfl | rfl | rfl | rfl <;> exact ⟨_, rfl⟩

/-- The formats G0, G1 and GA, letter by letter (R78 to R80). -/
theorem exists_decode_field {key : GroupKey} {letter : Letter} (h : letter ∈ lettersOf key) (w : Word) :
    ∃ i, decode (.field key letter w) = .ok i := by
  unfold lettersOf at h
  split_ifs at h with h0 h1 hA <;> simp only [List.mem_cons, List.not_mem_nil, or_false] at h
  · subst h0
    rcases h with rfl | rfl | rfl <;> exact ⟨_, rfl⟩
  · subst h1
    rcases h with rfl | rfl | rfl <;> exact ⟨_, rfl⟩
  · obtain rfl | rfl | rfl | rfl | rfl | rfl | rfl | rfl := ((groupKey_cases hA).resolve_left h0).resolve_left h1 <;>
      rcases h with rfl | rfl <;> exact ⟨_, rfl⟩

/-! ### The encoder inverts the decoder -/

/-- The per-operation round trips of Laws/PerInstr.lean together. -/
theorem decode_encode (i : Instr) : decode (encode i) = .ok i := by
  cases i <;> rfl

theorem wellFormed_encode (i : Instr) : (encode i).wellFormed = true := by
  cases i <;> rfl

theorem commandWord_cmd_data (w : CommandWord) : commandWord (w.extractLsb' 8 2) (w.extractLsb' 0 8) = w :=
  BitVec.extractLsb'_append_extractLsb'

/-- The decoding of CHAR looks at all ten bits (R72). -/
theorem and_commandMask_char {w : CommandWord} (h : w.extractLsb' 8 2 = Config.cmdChar) : w &&& commandMask w = w := by
  rw [commandMask, if_pos h]
  exact BitVec.and_allOnes

/-- The decoding of the other commands looks at cmd alone (R72). -/
theorem and_commandMask_of_ne_char {w : CommandWord} (h : w.extractLsb' 8 2 ≠ Config.cmdChar) :
    w &&& commandMask w = commandWord (w.extractLsb' 8 2) 0 := by
  have hcmd : ∀ v : CommandWord, v &&& 0x300#10 = commandWord (v.extractLsb' 8 2) 0 := by decide +kernel
  rw [commandMask, if_neg h, hcmd]

/-- Each row of R76 is encoded as CHAR with its symbol. -/
theorem encode_of_decodeSymbol {c : Symbol} {i : Instr} (h : decodeSymbol c = .ok i) :
    encode i = .command (commandWord Config.cmdChar c) := by
  have hrows : ∀ r ∈ symbolTable, encode r.instr = .command (commandWord Config.cmdChar r.code) := by decide
  unfold decodeSymbol at h
  split at h
  · rename_i r hr
    cases h
    have hcode : r.code = c := by simpa using List.find?_some hr
    rw [hrows r (List.mem_of_find?_eq_some hr), hcode]
  · cases h

theorem encode_of_decode_command {w : CommandWord} {i : Instr} (h : decode (.command w) = .ok i) :
    encode i = .command (w &&& commandMask w) := by
  rcases cmd_cases (w.extractLsb' 8 2) with hc | hc | hc | hc
  · rw [and_commandMask_of_ne_char (by rw [hc]; decide), hc]
    cases (decode_command_nop hc).symm.trans h
    rfl
  · rw [and_commandMask_char hc, ← commandWord_cmd_data w, hc]
    exact encode_of_decodeSymbol ((decode_command_char hc).symm.trans h)
  · rw [and_commandMask_of_ne_char (by rw [hc]; decide), hc]
    cases (decode_command_end hc).symm.trans h
    rfl
  · rw [and_commandMask_of_ne_char (by rw [hc]; decide), hc]
    cases (decode_command_start hc).symm.trans h
    rfl

/-- Each row of the table of R85 names its key. -/
theorem encode_of_decode_select {key : GroupKey} {w : Word} {i : Instr} (h : decode (.select key w) = .ok i) :
    encode i = .select key w := by
  rw [decode] at h
  unfold decodeSelect at h
  split at h <;> cases h <;> simp [encode, BitVec.toNat_eq, *]

/-- Each row of the tables of R78 to R82 names its group and its letter. -/
theorem encode_of_decode_field {key : GroupKey} {letter : Letter} {w : Word} {i : Instr}
    (h : decode (.field key letter w) = .ok i) : encode i = .field key letter w := by
  rw [decode] at h
  unfold decodeField at h
  split at h <;> cases h <;> simp [encode, BitVec.toNat_eq, *]

/-- Settles O23: the round trip of each operation, and for each kind of word that what it decodes to names it. -/
theorem decodeAndEncodeAgree : Obligations.DecodeAndEncodeAgree :=
  ⟨fun i _ => ⟨decode_encode i, wellFormed_encode i⟩, fun _ _ => encode_of_decode_command,
    fun _ _ _ => encode_of_decode_select, fun _ _ _ _ => encode_of_decode_field⟩

/-- Settles O24: command words by their four values of cmd; a select or field that decodes is the encoding of its
operation and so well formed, and each key and letter that is well formed has its row. -/
theorem decoderAcceptsExactlyTheWellFormed : Obligations.DecoderAcceptsExactlyTheWellFormed := by
  intro c
  cases c with
  | command w => exact exists_decode_command_iff w
  | select key w =>
    refine ⟨fun ⟨i, hi⟩ => encode_of_decode_select hi ▸ wellFormed_encode i, fun h => exists_decode_select ?_ w⟩
    simpa [Code.wellFormed] using h
  | field key letter w =>
    refine ⟨fun ⟨i, hi⟩ => encode_of_decode_field hi ▸ wellFormed_encode i, fun h => exists_decode_field ?_ w⟩
    simpa [Code.wellFormed] using h

/-- Settles O22: the words are encodings of their operations, or NOP and START with other data bits; the last three have
no row. -/
theorem wordsOfTheEncodingTablesDecode : Obligations.WordsOfTheEncodingTablesDecode :=
  ⟨decode_encode .nop, decode_command_nop rfl, decode_encode .endText, decode_command_start rfl, decode_encode .hex5,
    decode_encode .hexLE, decode_encode .hexUF, decode_encode (.selG3 _), decode_encode (.extTrafficClass _),
    decode_encode (.extHopLimit _), decode_encode (.sliceSrc7 _), decode_encode (.sliceDst6 _),
    (decode_command_char rfl).trans (decodeSymbol_of_hexVal_none rfl), rfl, rfl⟩

/-! ### The words of the opcode table -/

theorem tableCode_command {w : Nat} (h : w < 2 ^ 10) : tableCode 16 w = some (.command (BitVec.ofNat 10 w)) := by
  rw [tableCode, if_neg (by decide), if_pos (by decide), if_pos h]

theorem tableCode_select {k : Nat} (h : k < 2 ^ 4) : tableCode 8 k = some (.select (BitVec.ofNat 4 k) 0#32) := by
  rw [tableCode, if_pos (by decide), if_pos h]

theorem decodeTableWord_eq_some_iff {nbits w : Nat} {c : Code} (h : tableCode nbits w = some c) (i : Instr) :
    decodeTableWord nbits w = some i ↔ decode c = .ok i := by
  rw [decodeTableWord, h]
  cases hc : decode c <;> simp [hc]

/-! ### How the command words divide -/

theorem extractLsb'_cmd_ofNat (w : Nat) : (BitVec.ofNat 10 w).extractLsb' 8 2 = BitVec.ofNat 2 (w / 256) := by
  apply BitVec.eq_of_toNat_eq
  simp only [BitVec.extractLsb'_toNat, BitVec.toNat_ofNat, Nat.shiftRight_eq_div_pow]
  omega

theorem extractLsb'_data_ofNat (w : Nat) : (BitVec.ofNat 10 w).extractLsb' 0 8 = BitVec.ofNat 8 w := by
  apply BitVec.eq_of_toNat_eq
  simp

/-- A symbol is decoded to none of the control commands (R84). -/
theorem decodeSymbol_ne_of_digitValue_none {i : Instr} (hi : digitValue i = none) (c : Symbol) :
    decodeSymbol c ≠ .ok i := by
  intro h
  have hd := decodeSymbol_eq_hexVal c
  rw [h] at hd
  cases hx : hexVal c <;> simp [Except.toOption, hi, hx] at hd

/-- NOP, END and START have the first, third and fourth quarter of the command words (R71, R73). -/
theorem decodeTableWord_eq_control_iff {w : Nat} (h : w < 1024) :
    (decodeTableWord 16 w = some .nop ↔ w / 256 = 0) ∧
    (decodeTableWord 16 w = some .endText ↔ w / 256 = 2) ∧
    (decodeTableWord 16 w = some .start ↔ w / 256 = 3) := by
  simp only [decodeTableWord_eq_some_iff (tableCode_command h)]
  have hcmd := extractLsb'_cmd_ofNat w
  have hquarter : w / 256 = 0 ∨ w / 256 = 1 ∨ w / 256 = 2 ∨ w / 256 = 3 := by omega
  rcases hquarter with hw | hw | hw | hw <;> rw [hw] at hcmd ⊢
  · simp [decode_command_nop hcmd]
  · have hcontrol (i : Instr) (hi : digitValue i = none) := decodeSymbol_ne_of_digitValue_none hi (BitVec.ofNat 8 w)
    rw [decode_command_char hcmd, extractLsb'_data_ofNat]
    simp [hcontrol .nop (by decide), hcontrol .endText (by decide), hcontrol .start (by decide)]
  · simp [decode_command_end hcmd]
  · simp [decode_command_start hcmd]

/-- In the second quarter, CHAR, the words of the digits are decoded (R73, R86). -/
theorem isSome_decodeTableWord_char {w : Nat} (hw : w / 256 = 1) :
    (decodeTableWord 16 w).isSome = (hexVal (BitVec.ofNat 8 w)).isSome := by
  have hcmd := extractLsb'_cmd_ofNat w
  rw [hw] at hcmd
  rw [← isDigitSymbol_eq_isSome_hexVal, Bool.eq_iff_iff, ← exists_decodeSymbol_iff, Option.isSome_iff_exists,
    ← extractLsb'_data_ofNat, ← decode_command_char hcmd]
  exact exists_congr (decodeTableWord_eq_some_iff (tableCode_command (by omega)))

theorem length_filter_range_congr {n : Nat} {p q : Nat → Bool} (h : ∀ w < n, p w = q w) :
    ((List.range n).filter p).length = ((List.range n).filter q).length :=
  congrArg List.length (List.filter_congr fun w hw => h w (List.mem_range.mp hw))

/-- A command that has a quarter of the command words for itself has 256 of them. -/
theorem length_filter_control {i : Instr} {c : Nat} (hc : c < 4)
    (h : ∀ w < 1024, decodeTableWord 16 w = some i ↔ w / 256 = c) :
    ((List.range 1024).filter fun w => decodeTableWord 16 w == some i).length = 256 := by
  have hquarter : ∀ c < 4, ((List.range 1024).filter fun w => w / 256 == c).length = 256 := by decide +kernel
  rw [← hquarter c hc]
  refine length_filter_range_congr fun w hw => ?_
  rw [Bool.eq_iff_iff, beq_iff_eq, beq_iff_eq, h w hw]

/-- Settles O25: NOP, END and START have a quarter each; in the quarter of CHAR the decoder says what HexVal says, so
what is left is to count the symbols that have one. -/
theorem commandWordsAreCountedByClass : Obligations.CommandWordsAreCountedByClass := by
  refine ⟨length_filter_control (by decide) fun w hw => (decodeTableWord_eq_control_iff hw).1,
    length_filter_control (by decide) fun w hw => (decodeTableWord_eq_control_iff hw).2.1,
    length_filter_control (by decide) fun w hw => (decodeTableWord_eq_control_iff hw).2.2, ?digits, ?nonDigits⟩
  case digits =>
    rw [length_filter_range_congr (q := fun w => w / 256 == 1 && (hexVal (BitVec.ofNat 8 w)).isSome)]
    · decide +kernel
    · intro w _
      by_cases hw : w / 256 = 1
      · simp only [isSome_decodeTableWord_char hw, Bool.and_assoc, Bool.and_self]
      · simp [hw]
  case nonDigits =>
    rw [length_filter_range_congr (q := fun w => w / 256 == 1 && (hexVal (BitVec.ofNat 8 w)).isNone)]
    · decide +kernel
    · intro w _
      by_cases hw : w / 256 = 1
      · simp only [← Option.not_isSome, isSome_decodeTableWord_char hw, Bool.and_assoc, Bool.and_self]
      · simp [hw]

/-! ### The select of a completed group -/

theorem clockEdge_charSample_eq_shiftDigit {s : State} (h : s.legal = true) (hr : s.status = .run) {c : Symbol}
    {d : Nibble} (hd : hexVal c = some d) : clockEdge s (charSample c) = s.shiftDigit d := by
  rw [clockEdge_charSample h hr hd, State.shiftDigit_eq h hr]

/-- The digit after which a group is complete runs the select of its group on the completed word (R85, R161). -/
theorem clockEdge_eighth_digit {s : State} (h : s.legal = true) (hr : s.status = .run) {c : Symbol} {d : Nibble}
    (hd : hexVal c = some d) (h7 : digitIndex s.cnt = 7#3) {i : Instr}
    (hi : decode (.select (groupIndex s.cnt) (shiftIn s.acc d)) = .ok i) :
    clockEdge s (charSample c) = exec i (s.advance (shiftIn s.acc d)) := by
  rw [clockEdge_charSample_eq_shiftDigit h hr hd, State.shiftDigit, if_pos h7, fireSelect_eq_exec hi]

/-- Settles O15: at the eighth digit the key is one of the ten, so it decodes, and the mux array fires what it decodes to;
at any other digit CNT is not 79 and nothing fires. -/
theorem muxArrayFiresTheSelectOfTheGroup : Obligations.MuxArrayFiresTheSelectOfTheGroup := by
  intro s c d hlegal hrun hd
  refine ⟨fun h7 => ?eighth, fun h7 => ?other⟩
  case eighth =>
    obtain ⟨i, hi⟩ := exists_decode_select (groupIndex_le (s.legal_run hlegal hrun).1) (shiftIn s.acc d)
    refine ⟨i, hi, ?_⟩
    rw [clockEdge_eighth_digit hlegal hrun hd h7 hi, State.advance, statusAfterDigit, hrun]
    rfl
  case other =>
    have hstatus : statusAfterDigit s.cnt s.status = s.status := if_neg fun h79 => h7 (by rw [h79]; rfl)
    have hshift : s.shiftDigit d = .next (s.advance (shiftIn s.acc d)) := if_neg h7
    rw [clockEdge_charSample_eq_shiftDigit hlegal hrun hd, hshift, State.advance, hstatus]
    rfl

/-! ### A staged row -/

theorem step_withFetchWord_command (s : State) {w : Nat} (h : w < 2 ^ 10) {i : Instr}
    (hi : decode (.command (BitVec.ofNat 10 w)) = .ok i) : step (s.withFetchWord 16 w) = exec i s.takeSample := by
  have hstage : s.withFetchWord 16 w = s.withInputs (InputSample.ofWord (BitVec.ofNat 10 w) :: s.inputs.tail) := by
    rw [State.withFetchWord, State.stageTableWord, tableCode_command h]
    rfl
  have hword : (InputSample.ofWord (BitVec.ofNat 10 w)).word = BitVec.ofNat 10 w := commandWord_cmd_data _
  rw [hstage, step_withInputs_cons, clockEdge, hword, hi]
  rfl

theorem hexVal_digitSymbol : ∀ d : Nibble, hexVal (digitSymbol d) = some d := by decide

theorem shiftIn_shiftRight_setWidth (w : Word) : shiftIn (w >>> 4) (w.setWidth 4) = w := by
  rw [BitVec.setWidth_eq_extractLsb' (by decide)]
  exact BitVec.extractLsb'_append_extractLsb' (w := 28) (len := 4)

/-- A staged group word completes its group, and the next step runs the select of the group on it (R85, log entry 7). -/
theorem step_stageCommit (s : State) {key : GroupKey} (hkey : key ≤ 9#4) {w : Word} {i : Instr}
    (hi : decode (.select key w) = .ok i) :
    step (s.stageCommit key w) = exec i ((s.stageCommit key w).takeSample.advance w) := by
  have hlegal : (s.stageCommit key w).takeSample.legal = true := by
    have hcnt : ∀ key : GroupKey, key ≤ 9#4 → (key ++ 7#3 : Position) ≤ 79#7 := by decide
    simp [State.legal, State.stageCommit, hcnt key hkey]
  have hgroup : groupIndex (s.stageCommit key w).takeSample.cnt = key := BitVec.extractLsb'_append_eq_left
  have hdigit : digitIndex (s.stageCommit key w).takeSample.cnt = 7#3 := BitVec.extractLsb'_append_eq_right
  have hword : shiftIn (s.stageCommit key w).takeSample.acc (w.setWidth 4) = w := shiftIn_shiftRight_setWidth w
  have hedge := clockEdge_eighth_digit hlegal rfl (hexVal_digitSymbol (w.setWidth 4)) hdigit (i := i)
    (by rw [hgroup, hword, hi])
  rwa [hword] at hedge

/-- Settles O21: a staged command word is on the ports of the next step; a staged key is a staged group word 0, for each
of whose ten positions the new CNT and STATE are the stated ones. -/
theorem stagedRowIsTheNextStep : Obligations.StagedRowIsTheNextStep := by
  refine ⟨fun s w i hw hi => ?command, fun s k i hk hi => ?select⟩
  case command => exact step_withFetchWord_command s hw ((decodeTableWord_eq_some_iff (tableCode_command hw) i).mp hi)
  case select =>
    have htable := tableCode_select (Nat.lt_trans hk (by decide : 10 < 2 ^ 4))
    have hstage : s.withFetchWord 8 k = s.stageCommit (BitVec.ofNat 4 k) 0#32 := by
      rw [State.withFetchWord, State.stageTableWord, htable]
      rfl
    have hkey : ∀ k < 10, BitVec.ofNat 4 k ≤ 9#4 := by decide
    have hcnt : ∀ k < 10, (BitVec.ofNat 4 k ++ 7#3 : Position) + 1#7 = BitVec.ofNat 7 (8 * k + 8) := by decide
    have hstatus : ∀ k < 10, statusAfterDigit (BitVec.ofNat 4 k ++ 7#3) .run = if k = 9 then .done else .run := by
      decide
    rw [hstage, step_stageCommit s (hkey k hk) ((decodeTableWord_eq_some_iff htable i).mp hi), ← hcnt k hk,
      ← hstatus k hk]
    rfl

/-! ### States that are not the block's -/

/-- Settles O46: NOP asks for a state of the block itself, and END and every CHAR ask for one as commands of RUN. -/
theorem statesThatAreNotTheBlocksAreRefused : Obligations.StatesThatAreNotTheBlocksAreRefused := by
  refine ⟨fun s h => ?refused, fun key w s h => ?reserved⟩
  case refused =>
    have hrunning (o : Result) : s.whenRunning o = .refused .notAStateOfTheBlock := State.whenRunning_of_not_legal h o
    have hdigit (d : Nibble) : s.acceptDigit d = .refused .notAStateOfTheBlock := hrunning _
    exact ⟨hrunning _, State.whenLegal_of_not_legal h _, hrunning _, hdigit 0, hdigit 1, hdigit 2, hdigit 3, hdigit 4,
      hdigit 5, hdigit 6, hdigit 7, hdigit 8, hdigit 9,
      hdigit 10, hdigit 11, hdigit 12, hdigit 13, hdigit 14, hdigit 15,
      hdigit 10, hdigit 11, hdigit 12, hdigit 13, hdigit 14, hdigit 15⟩
  case reserved =>
    unfold fireSelect
    split
    case h_11 => rfl
    all_goals omega

/-! ### The address ports -/

/-- Group k of a packed address stands in bits 127-16k to 112-16k (R83). -/
theorem extractLsb'_packAddress (a : Vector AddrGroup 8) (k : Fin 8) :
    (packAddress a).extractLsb' (112 - 16 * k.val) 16 = a[k] := by
  fin_cases k <;> unfold packAddress <;> repeat rw [BitVec.extractLsb'_append_eq_of_le (by decide)]
  · exact BitVec.extractLsb'_eq_self
  all_goals exact BitVec.extractLsb'_append_eq_right

/-- Eight parts put together one by one are the four pairs put together. -/
theorem append_pairs (a b c d e f g h : AddrGroup) :
    a ++ b ++ c ++ d ++ e ++ f ++ g ++ h = (a ++ b) ++ (c ++ d) ++ (e ++ f) ++ (g ++ h) := by
  iterate 3 rw [BitVec.append_assoc']
  rfl

theorem packAddress_addressOf (a b c d : Word) : packAddress (addressOf a b c d) = a ++ b ++ c ++ d := by
  have halves (w : Word) : w.extractLsb' 16 16 ++ w.extractLsb' 0 16 = w := BitVec.extractLsb'_append_extractLsb'
  calc packAddress (addressOf a b c d)
    _ = (a.extractLsb' 16 16 ++ a.extractLsb' 0 16) ++ (b.extractLsb' 16 16 ++ b.extractLsb' 0 16) ++
          (c.extractLsb' 16 16 ++ c.extractLsb' 0 16) ++ (d.extractLsb' 16 16 ++ d.extractLsb' 0 16) :=
      append_pairs _ _ _ _ _ _ _ _
    _ = a ++ b ++ c ++ d := by rw [halves, halves, halves, halves]

/-- Settles O42: each group has its place in the packed address, and the two halves of each word stand next to each
other. -/
theorem addressPortsPackFirstHighest : Obligations.AddressPortsPackFirstHighest :=
  ⟨fun s k => ⟨extractLsb'_packAddress s.src k, extractLsb'_packAddress s.dst k⟩,
    fun _ => ⟨packAddress_addressOf _ _ _ _, packAddress_addressOf _ _ _ _⟩⟩

end Sys2Proof.Machine
end

section
/-! Port commands (40_port_commands.md): what R108 writes in each of its cases and that the clock edge answers it; the
table of the sequencer read off R108; the control commands; which command a step runs; the commands after the end. -/

namespace Sys2Proof.Machine

/-! ### The cases of R108 -/

/-- A commit neither reads nor writes STATE. -/
theorem referenceCommit_setStatus (s : State) (g : Nat) (w : Word) (x : Status) :
    referenceCommit { s with status := x } g w = { referenceCommit s g w with status := x } := by
  unfold referenceCommit
  split_ifs <;> rfl

/-- R108 writes STATE after the fields of the group, the digit command (R102) before them; the two agree. -/
theorem referenceDigit_eq_afterDigit (s : State) (d : Nibble) : referenceDigit s d = s.afterDigit d := by
  simp only [referenceDigit, State.afterDigit, State.advance, statusAfterDigit, shiftIn, digitIndex, groupIndex]
  split_ifs
  · exact (referenceCommit_setStatus _ _ _ _).symm
  all_goals rfl

section
variable {s : State} {p : InputSample}

theorem referenceStep_clear (h : p.rst = true ∨ p.cmd = 3#2) : referenceStep s p = s.clear := by
  rcases h with h | h
  · rw [referenceStep, if_pos h]; rfl
  · rw [referenceStep, if_pos h, ite_self]; rfl

theorem referenceStep_keep (hr : p.rst = false) (hs : p.cmd ≠ 3#2) (h : p.cmd = 0#2 ∨ s.status ≠ .run) :
    referenceStep s p = s := by
  rw [referenceStep, if_neg (by simp [hr]), if_neg hs]
  rcases h with h | h
  · rw [if_pos h]
  · rw [if_pos h, ite_self]

theorem referenceStep_end (hr : p.rst = false) (hc : p.cmd = 2#2) (hs : s.status = .run) :
    referenceStep s p = s.raiseParseError .shortInput s.cnt := by
  simp [referenceStep, hr, hc, hs, State.raiseParseError]

theorem referenceStep_nonDigit (hr : p.rst = false) (hc : p.cmd = 1#2) (hs : s.status = .run)
    (hx : hexVal p.data = none) : referenceStep s p = s.raiseParseError .nonHex s.cnt := by
  simp [referenceStep, hr, hc, hs, hx, State.raiseParseError]

theorem referenceStep_digit (hr : p.rst = false) (hc : p.cmd = 1#2) (hs : s.status = .run) {d : Nibble}
    (hx : hexVal p.data = some d) : referenceStep s p = s.afterDigit d := by
  simp [referenceStep, hr, hc, hs, hx, referenceDigit_eq_afterDigit]

end

/-- Settles O29: the clock edge always answers a next state, and each way it can is one case of R108. -/
theorem stepIsTheStepOfR108 : Obligations.StepIsTheStepOfR108 := by
  intro s p hlegal
  obtain ⟨t, hedge, -⟩ := clockEdge_total hlegal p
  rw [hedge]
  congr 1
  obtain ⟨rfl, hclear⟩ | ⟨hrst, -, rfl, hkeep⟩ | ⟨hrst, -, hrun, hcmd, rfl⟩ | ⟨hrst, -, hrun, hcmd, hdata, rfl⟩ |
    ⟨hrst, -, hrun, hcmd, d, hdata, rfl⟩ := clockEdge_next hedge
  · exact (referenceStep_clear hclear).symm
  · have hne : p.cmd ≠ 3#2 := hkeep.elim (fun hnop => by rw [hnop]; decide) And.right
    exact (referenceStep_keep hrst hne (hkeep.imp_right And.left)).symm
  · exact (referenceStep_end hrst hcmd hrun).symm
  · exact (referenceStep_nonDigit hrst hcmd hrun hdata).symm
  · exact (referenceStep_digit hrst hcmd hrun hdata).symm

/-! ### The table of the sequencer -/

/-- Settles O17: the next state is that of R108, and each cell of the table is one of its cases. -/
theorem sequencerFollowsItsTable : Obligations.SequencerFollowsItsTable := by
  intro s p hlegal
  refine ⟨referenceStep s p, stepIsTheStepOfR108 s p hlegal, referenceStep_clear,
    fun hrst hne => ⟨fun hkeep => ?keep, fun hrun => ⟨fun hcmd => ?endText, fun hcmd hdata => ?nonDigit,
      fun hcmd hdata hcnt => ?digit, fun hcmd hdata hcnt => ?lastDigit⟩, fun hdone => (s.legal_done hlegal hdone).1⟩⟩
  case keep => rw [referenceStep_keep hrst hne hkeep]
  case endText =>
    rw [referenceStep_end hrst hcmd hrun]
    exact ⟨rfl, rfl⟩
  case nonDigit =>
    rw [referenceStep_nonDigit hrst hcmd hrun hdata]
    exact ⟨rfl, rfl⟩
  all_goals
    obtain ⟨d, hd⟩ := Option.isSome_iff_exists.mp hdata
    rw [referenceStep_digit hrst hcmd hrun hd, State.afterDigit_status, hrun, statusAfterDigit]
  case digit => exact if_neg (by bv_omega)
  case lastDigit => exact if_pos hcnt

/-! ### The control commands -/

/-- Settles O1: only CHAR looks at the data bits, and a state of the block passes the guard of NOP. -/
theorem nopKeepsEveryRegister : Obligations.NopKeepsEveryRegister :=
  ⟨fun data => decode_command_nop (commandWord_cmd 0#2 data), fun _ hlegal => State.whenLegal_of_legal hlegal _⟩

/-- Settles O2: START answers the cleared state, in which each register is 0. -/
theorem startClearsEveryRegister : Obligations.StartClearsEveryRegister := by
  refine ⟨fun data => decode_command_start (commandWord_cmd 3#2 data), fun s => ⟨s.clear, rfl, ?_⟩⟩
  simp

/-- Settles O3: END is a command of RUN, and what it does there is to raise SHORT_INPUT at CNT. -/
theorem endRaisesShortInputInRun : Obligations.EndRaisesShortInputInRun :=
  ⟨fun data => decode_command_end (commandWord_cmd 2#2 data), fun _ hlegal =>
    ⟨fun hrun => State.whenRunning_of_run hlegal hrun _, fun hs => State.whenRunning_of_not_run hlegal hs _⟩⟩

/-! ### Which command a step runs -/

theorem step_of_inputs_cons {s : State} {p : InputSample} {ps : List InputSample} (h : s.inputs = p :: ps) :
    step s = clockEdge (s.withInputs ps) p := by
  rw [← s.withInputs_self, h]
  rfl

/-- A command word that the decoder rejects is CHAR with a non-digit (R73, R86). -/
theorem char_nonDigit_of_decode_error {cmd : BitVec 2} {data : Symbol} {e : Reject}
    (h : decode (.command (commandWord cmd data)) = .error e) : cmd = Config.cmdChar ∧ hexVal data = none := by
  have hill : (Code.command (commandWord cmd data)).wellFormed = false := by
    rw [← Bool.not_eq_true, ← exists_decode_command_iff, h]
    simp
  simpa [Code.wellFormed, commandWord_cmd, commandWord_data, isDigitSymbol_eq_isSome_hexVal] using hill

/-- Settles O20: the clock edge decodes the word of the sample taken; with no sample left the ports are idle, which is
NOP. -/
theorem stepRunsTheDecodedCommand : Obligations.StepRunsTheDecodedCommand := by
  refine ⟨fun s p ps i hs hrst hi => ?decoded, fun s p ps e hs hrst he => ?rejected, fun s p ps hs hrst => ?reset,
    fun s hs => ?idle⟩
  case decoded =>
    have hword : decode (.command p.word) = .ok i := hi
    rw [step_of_inputs_cons hs, clockEdge, if_neg (by simp [hrst]), hword]
    rfl
  case rejected =>
    have hword : decode (.command p.word) = .error e := he
    obtain ⟨hcmd, hdata⟩ := char_nonDigit_of_decode_error he
    refine ⟨hcmd, hdata, ?_⟩
    rw [step_of_inputs_cons hs, clockEdge, if_neg (by simp [hrst]), hword]
    rfl
  case reset => rw [step_of_inputs_cons hs, clockEdge_rst _ hrst]; rfl
  case idle =>
    rw [← s.withInputs_self, hs, step_withInputs_nil, clockEdge_nop _ rfl rfl]
    rfl

/-! ### The commands after the end -/

/-- Settles O30, by induction on the commands: each leaves the state of the block as it is, so the rest meets the same
state. -/
theorem afterTheEndNothingChanges : Obligations.AfterTheEndNothingChanges := by
  intro s ps hlegal hs hps
  induction ps with
  | nil => exact runProgram_nil s
  | cons p ps ih =>
    obtain ⟨⟨hrst, hcmd⟩, hrest⟩ := List.forall_mem_cons.mp hps
    have hedge : clockEdge (s.withInputs ps) p = .next (s.withInputs ps) :=
      clockEdge_not_run ((s.legal_withInputs ps).trans hlegal) hs hrst hcmd
    rw [runProgram_cons, hedge]
    exact ih hrest

end Sys2Proof.Machine
end

section
/-! Hex shifter (41_hex_shifter.md): the values of the digits and that their letter case is not seen; what one digit, a
digit command, a non-digit and the eight digits of a group do. -/

namespace Sys2Proof.Machine

/-! ### The value of a symbol -/

section
variable {c : Symbol}

theorem hexVal_decimal (hlo : 0x30 ≤ c.toNat) (hhi : c.toNat ≤ 0x39) :
    ∃ d, hexVal c = some d ∧ d.toNat = c.toNat - 0x30 := by
  refine ⟨(c - 0x30#8).setWidth 4, if_pos ⟨hlo, hhi⟩, ?_⟩
  bv_omega

theorem hexVal_upper (hlo : 0x41 ≤ c.toNat) (hhi : c.toNat ≤ 0x46) :
    ∃ d, hexVal c = some d ∧ d.toNat = c.toNat - 0x41 + 10 := by
  refine ⟨(c - 0x41#8 + 10#8).setWidth 4, ?_, by bv_omega⟩
  rw [hexVal, if_neg (by bv_omega), if_pos ⟨hlo, hhi⟩]

theorem hexVal_lower (hlo : 0x61 ≤ c.toNat) (hhi : c.toNat ≤ 0x66) :
    ∃ d, hexVal c = some d ∧ d.toNat = c.toNat - 0x61 + 10 := by
  refine ⟨(c - 0x61#8 + 10#8).setWidth 4, ?_, by bv_omega⟩
  rw [hexVal, if_neg (by bv_omega), if_neg (by bv_omega), if_pos ⟨hlo, hhi⟩]

theorem hexVal_nonDigit (h : c.toNat < 0x30 ∨ 0x39 < c.toNat ∧ c.toNat < 0x41 ∨ 0x46 < c.toNat ∧ c.toNat < 0x61 ∨
    0x66 < c.toNat) : hexVal c = none := by
  rw [hexVal, if_neg (by bv_omega), if_neg (by bv_omega), if_neg (by bv_omega)]

end

theorem length_filter_nonDigit : ((List.range 256).filter fun n => (hexVal (BitVec.ofNat 8 n)).isNone).length = 234 := by
  decide +kernel

/-- Settles O26: the three ranges and what lies outside them are the branches of HexVal. -/
theorem hexValIsTheDigitValue : Obligations.HexValIsTheDigitValue :=
  ⟨fun _ => ⟨fun ⟨hlo, hhi⟩ => hexVal_decimal hlo hhi, fun ⟨hlo, hhi⟩ => hexVal_upper hlo hhi,
    fun ⟨hlo, hhi⟩ => hexVal_lower hlo hhi, hexVal_nonDigit⟩, length_filter_nonDigit⟩

/-! ### One digit -/

theorem toNat_append_nibble {n : Nat} (x : BitVec n) (d : Nibble) : (x ++ d).toNat = x.toNat * 16 + d.toNat := by
  rw [BitVec.toNat_append, ← Nat.shiftLeft_add_eq_or_of_lt d.isLt, Nat.shiftLeft_eq]

/-- The shift-in as arithmetic: the top digit of ACC is what 2^32 takes away (R121). -/
theorem toNat_shiftIn (acc : Word) (d : Nibble) : (shiftIn acc d).toNat = (acc.toNat * 16 + d.toNat) % 2 ^ 32 := by
  have hlow : (acc.extractLsb' 0 28).toNat = acc.toNat % 2 ^ 28 := by simp
  have hshift : (shiftIn acc d).toNat = acc.toNat % 2 ^ 28 * 16 + d.toNat := by
    rw [← hlow]; exact toNat_append_nibble _ _
  omega

theorem statusAfterDigit_run_ne_err (cnt : Position) : statusAfterDigit cnt .run ≠ .err := by
  unfold statusAfterDigit
  split <;> simp

theorem State.afterDigit_of_eighth {s : State} (h : digitIndex s.cnt = 7#3) (d : Nibble) :
    s.afterDigit d =
      referenceCommit (s.advance (shiftIn s.acc d)) (groupIndex s.cnt).toNat (shiftIn s.acc d) :=
  if_pos h

theorem State.afterDigit_of_not_eighth {s : State} (h : digitIndex s.cnt ≠ 7#3) (d : Nibble) :
    s.afterDigit d = s.advance (shiftIn s.acc d) :=
  if_neg h

/-- A digit that is not the eighth of its group fires no select. -/
theorem State.fieldRegisters_afterDigit {s : State} (h : s.cnt.toNat % 8 ≠ 7) (d : Nibble) :
    (s.afterDigit d).fieldRegisters = s.fieldRegisters := by
  have hdigit : digitIndex s.cnt ≠ 7#3 := fun h7 => h (by rw [← digitIndex_toNat, h7]; rfl)
  rw [State.afterDigit_of_not_eighth hdigit]
  rfl

/-- Settles O7: the next state is that after the digit, and each register of it has its lemma. -/
theorem digitMovesTheAccumulatorUp : Obligations.DigitMovesTheAccumulatorUp := by
  intro s c d hlegal hrun hd
  refine ⟨s.afterDigit d, clockEdge_charSample hlegal hrun hd, s.afterDigit_acc d, ?value, ?count, ?done, ?noError,
    s.afterDigit_errCause d, s.afterDigit_errPos d, s.afterDigit_inputs d, fun h => State.fieldRegisters_afterDigit h d⟩
  case value => rw [State.afterDigit_acc, toNat_shiftIn]
  case count => rw [State.afterDigit_cnt, position_succ_toNat (s.legal_run hlegal hrun).1]
  case done => rw [State.afterDigit_status, hrun, statusAfterDigit_run_eq_done_iff]
  case noError =>
    rw [State.afterDigit_status, hrun]
    exact statusAfterDigit_run_ne_err s.cnt

/-! ### The digit commands -/

theorem exec_digit_of_run {s : State} (h : s.legal = true) (hr : s.status = .run) {i : Instr} {d : Nibble}
    (hi : digitValue i = some d) : exec i s = .next (referenceDigit s d) := by
  rw [exec_of_digitValue hi, State.acceptDigit_eq h hr, referenceDigit_eq_afterDigit]

theorem exec_digit_of_not_run {s : State} (h : s.legal = true) (hr : s.status ≠ .run) {i : Instr} {d : Nibble}
    (hi : digitValue i = some d) : exec i s = .next s := by
  rw [exec_of_digitValue hi, State.acceptDigit, State.whenRunning_of_not_run h hr]

/-- Settles O4: its rows of R76 are what the decoder and HexVal compute, and each of the ten accepts the digit of its row. -/
theorem decimalDigitsShiftIn : Obligations.DecimalDigitsShiftIn := by
  iterate 20 refine ⟨rfl, ?_⟩
  intro s hlegal
  refine ⟨fun hrun => ?run, fun hs => ?ended⟩
  case run => and_intros <;> exact exec_digit_of_run hlegal hrun rfl
  case ended => and_intros <;> exact exec_digit_of_not_run hlegal hs rfl

/-- Settles O5: its rows of R76 are what the decoder and HexVal compute, and each of the six accepts the digit of its row. -/
theorem lowerCaseDigitsShiftIn : Obligations.LowerCaseDigitsShiftIn := by
  iterate 12 refine ⟨rfl, ?_⟩
  intro s hlegal
  refine ⟨fun hrun => ?run, fun hs => ?ended⟩
  case run => and_intros <;> exact exec_digit_of_run hlegal hrun rfl
  case ended => and_intros <;> exact exec_digit_of_not_run hlegal hs rfl

/-- Settles O6: its rows of R76 are what the decoder and HexVal compute, and each of the six accepts the digit of its row. -/
theorem upperCaseDigitsShiftIn : Obligations.UpperCaseDigitsShiftIn := by
  iterate 12 refine ⟨rfl, ?_⟩
  intro s hlegal
  refine ⟨fun hrun => ?run, fun hs => ?ended⟩
  case run => and_intros <;> exact exec_digit_of_run hlegal hrun rfl
  case ended => and_intros <;> exact exec_digit_of_not_run hlegal hs rfl

/-! ### A non-digit -/

theorem clockEdge_nonDigit (s : State) {c : Symbol} (hc : hexVal c = none) :
    clockEdge s (charSample c) = s.whenRunning (.next (s.raiseParseError .nonHex s.cnt)) := by
  rw [clockEdge_char s rfl rfl]
  simp only [charSample, hc]
  rfl

/-- Settles O8: a non-digit is a command of RUN, and what it does there is to raise NON_HEX at CNT. -/
theorem nonDigitRaisesNonHexInRun : Obligations.NonDigitRaisesNonHexInRun := by
  refine ⟨fun s hlegal c hc => ⟨fun hrun => ?run, fun hs => ?ended⟩, by decide, length_filter_nonDigit, ?reset⟩
  case run => rw [clockEdge_nonDigit s hc, State.whenRunning_of_run hlegal hrun]; rfl
  case ended => rw [clockEdge_nonDigit s hc, State.whenRunning_of_not_run hlegal hs]
  case reset => rw [clockEdge_nonDigit State.reset (by decide), State.whenRunning_of_run rfl rfl]; rfl

/-! ### The samples still to come -/

theorem referenceCommit_withInputs (s : State) (g : Nat) (w : Word) (ps : List InputSample) :
    referenceCommit (s.withInputs ps) g w = (referenceCommit s g w).withInputs ps := by
  unfold referenceCommit
  split_ifs <;> rfl

theorem State.afterDigit_withInputs (s : State) (d : Nibble) (ps : List InputSample) :
    (s.withInputs ps).afterDigit d = (s.afterDigit d).withInputs ps := by
  by_cases h7 : digitIndex s.cnt = 7#3
  · rw [State.afterDigit_of_eighth h7, State.afterDigit_of_eighth (s := s.withInputs ps) h7]
    exact referenceCommit_withInputs (s.advance (shiftIn s.acc d)) _ _ ps
  · rw [State.afterDigit_of_not_eighth h7, State.afterDigit_of_not_eighth (s := s.withInputs ps) h7]
    rfl

/-- An outcome with other samples still to come. -/
def outcomeWithInputs (o : Result) (ps : List InputSample) : Result := andThen o fun t => .next (t.withInputs ps)

theorem State.whenRunning_withInputs (s : State) {o o' : Result} (ps : List InputSample)
    (ho : s.legal = true → s.status = .run → o' = outcomeWithInputs o ps) :
    (s.withInputs ps).whenRunning o' = outcomeWithInputs (s.whenRunning o) ps := by
  have hlegal := s.legal_withInputs ps
  cases hl : s.legal with
  | false => rw [State.whenRunning_of_not_legal hl, State.whenRunning_of_not_legal (hlegal.trans hl)]; rfl
  | true =>
    by_cases hs : s.status = .run
    · rw [State.whenRunning_of_run hl hs, State.whenRunning_of_run (hlegal.trans hl) hs, ho hl hs]
    · rw [State.whenRunning_of_not_run hl hs, State.whenRunning_of_not_run (hlegal.trans hl) hs]; rfl

theorem State.whenLegal_next_withInputs (s : State) (ps : List InputSample) :
    (s.withInputs ps).whenLegal (.next (s.withInputs ps)) = outcomeWithInputs (s.whenLegal (.next s)) ps := by
  have hlegal := s.legal_withInputs ps
  cases hl : s.legal with
  | false => rw [State.whenLegal_of_not_legal hl, State.whenLegal_of_not_legal (hlegal.trans hl)]; rfl
  | true => rw [State.whenLegal_of_legal hl, State.whenLegal_of_legal (hlegal.trans hl)]; rfl

/-- A clock edge neither reads nor writes the samples still to come (R21). -/
theorem clockEdge_withInputs (s : State) (p : InputSample) (ps : List InputSample) :
    clockEdge (s.withInputs ps) p = outcomeWithInputs (clockEdge s p) ps := by
  cases hr : p.rst with
  | true => rw [clockEdge_rst _ hr, clockEdge_rst _ hr]; rfl
  | false =>
    rcases cmd_cases p.cmd with hc | hc | hc | hc
    · rw [clockEdge_nop _ hr hc, clockEdge_nop _ hr hc]
      exact s.whenLegal_next_withInputs ps
    · rw [clockEdge_char _ hr hc, clockEdge_char _ hr hc]
      cases hexVal p.data with
      | none => exact s.whenRunning_withInputs ps fun _ _ => rfl
      | some d =>
        refine s.whenRunning_withInputs ps fun hl hs => ?_
        rw [State.shiftDigit_eq hl hs, State.shiftDigit_eq (s := s.withInputs ps) hl hs, State.afterDigit_withInputs]
        rfl
    · rw [clockEdge_end _ hr hc, clockEdge_end _ hr hc]
      exact s.whenRunning_withInputs ps fun _ _ => rfl
    · rw [clockEdge_start _ hr hc, clockEdge_start _ hr hc]; rfl

/-- A run gives its first sample to the clock edge and the others to what comes out. -/
theorem runProgram_cons_eq_andThen (s : State) (p : InputSample) (ps : List InputSample) :
    runProgram s (p :: ps) = andThen (clockEdge s p) fun t => runProgram t ps := by
  rw [runProgram_cons, clockEdge_withInputs]
  cases clockEdge s p <;> rfl

/-! ### The letter case of a text -/

theorem hexVal_lowerCase : ∀ c : Symbol, hexVal (lowerCase c) = hexVal c := by decide +kernel

theorem map_hexVal_map_lowerCase (t : Text) : (t.map lowerCase).map hexVal = t.map hexVal := by
  simp [hexVal_lowerCase]

theorem map_hexVal_eq_of_map_lowerCase {t t' : Text} (h : t.map lowerCase = t'.map lowerCase) :
    t.map hexVal = t'.map hexVal := by
  rw [← map_hexVal_map_lowerCase t, h, map_hexVal_map_lowerCase]

section
variable {t t' : Text} (h : t.map hexVal = t'.map hexVal)
include h

theorem nibbleAt_congr (i : Nat) : nibbleAt t i = nibbleAt t' i := by
  rw [nibbleAt, nibbleAt, ← List.getD_map (f := hexVal), ← List.getD_map (f := hexVal), h]

theorem groupWords_congr : groupWords t = groupWords t' := by
  simp only [groupWords, groupWord, nibbleAt_congr h]

theorem firstNonDigit_congr : firstNonDigit t = firstNonDigit t' := by
  have hmap (u : Text) : firstNonDigit u = ((u.map hexVal).take Config.nChars).findIdx? Option.isNone := by
    rw [firstNonDigit, ← List.map_take, List.findIdx?_map]
    rfl
  rw [hmap, hmap, h]

/-- Decode sees a text only through the values of its symbols (R200). -/
theorem decodeText_congr : decodeText t = decodeText t' := by
  have hlength : t.length = t'.length := by simpa using congrArg List.length h
  rw [decodeText, decodeText, firstNonDigit_congr h, groupWords_congr h, hlength]

end

theorem clockEdge_charSample_congr (s : State) {c c' : Symbol} (h : hexVal c = hexVal c') :
    clockEdge s (charSample c) = clockEdge s (charSample c') := by
  rw [clockEdge_char s rfl rfl, clockEdge_char s rfl rfl]
  simp only [charSample, h]

/-- The machine sees a text only through the values of its symbols (R120, R121). -/
theorem runProgram_textProgram_congr {t t' : Text} (h : t.map hexVal = t'.map hexVal) (s : State) :
    runProgram s (textProgram t) = runProgram s (textProgram t') := by
  induction t generalizing t' s with
  | nil => rw [List.map_eq_nil_iff.mp h.symm]
  | cons c t ih =>
    obtain ⟨c', t', rfl, hc, ht⟩ := List.map_eq_cons_iff.mp h.symm
    simp only [textProgram, List.map_cons, runProgram_cons_eq_andThen, clockEdge_charSample_congr s hc.symm]
    congr 1
    funext u
    exact ih ht.symm u

/-- Settles O40: lower case changes no symbol's value, and values are all that Decode and the machine see of a text. -/
theorem letterCaseDoesNotMatter : Obligations.LetterCaseDoesNotMatter := by
  refine ⟨fun t t' h => decodeText_congr (map_hexVal_eq_of_map_lowerCase h), fun s t t' k h => ?machine⟩
  have htake : (t.take k).map hexVal = (t'.take k).map hexVal := by
    rw [List.map_take, List.map_take, map_hexVal_eq_of_map_lowerCase h]
  rw [textProgram, textProgram, ← List.map_take, ← List.map_take]
  exact runProgram_textProgram_congr htake s

/-! ### The digits of a text -/

/-- The state after digits of the values ds. -/
def State.afterDigits (s : State) (ds : List Nibble) : State := ds.foldl State.afterDigit s

/-- In the states that digits lead through, STATE is RUN until 80 are counted (R104, R106). -/
theorem State.run_of_cnt_lt {s : State} (h : s.legal = true) (hs : s.status ≠ .err) (hcnt : s.cnt.toNat < 80) :
    s.status = .run := by
  rw [s.status.eq_run_iff]
  refine ⟨fun hdone => ?_, hs⟩
  rw [(s.legal_done h hdone).1] at hcnt
  exact absurd hcnt (by decide)

/-- Digits are taken one a step, up to the 80th, and nothing else is (R102, R105). -/
theorem runProgram_digits {t : Text} {ds : List Nibble} (ht : t.map hexVal = ds.map some) {s : State}
    (h : s.legal = true) (hs : s.status ≠ .err) (hcnt : s.cnt.toNat + ds.length ≤ 80) :
    runProgram s (textProgram t) = .next ((s.afterDigits ds).withInputs []) ∧
      (s.afterDigits ds).legal = true ∧ (s.afterDigits ds).status ≠ .err ∧
      (s.afterDigits ds).cnt.toNat = s.cnt.toNat + ds.length := by
  induction ds generalizing s t with
  | nil =>
    rw [List.map_eq_nil_iff.mp ht]
    exact ⟨runProgram_nil s, h, hs, rfl⟩
  | cons d ds ih =>
    obtain ⟨c, t, rfl, hc, ht⟩ := List.map_eq_cons_iff.mp ht
    rw [List.length_cons] at hcnt ⊢
    have hrun := State.run_of_cnt_lt h hs (by omega)
    have hsucc : (s.afterDigit d).cnt.toNat = s.cnt.toNat + 1 := by
      rw [State.afterDigit_cnt, position_succ_toNat (s.legal_run h hrun).1]
    have hne : (s.afterDigit d).status ≠ .err := by
      rw [State.afterDigit_status, hrun]
      exact statusAfterDigit_run_ne_err s.cnt
    obtain ⟨hrest, hlegal, hstatus, hcount⟩ := ih ht (State.legal_afterDigit h hrun d) hne (by omega)
    refine ⟨?_, hlegal, hstatus, hcount.trans (by omega)⟩
    rw [textProgram, List.map_cons, runProgram_cons_eq_andThen, clockEdge_charSample h hrun hc]
    exact hrest

/-- The base-16 numeral of a list of digits, read after the value v (R147). -/
def hexNumeral (v : Nat) (ds : List Nibble) : Nat := ds.foldl (fun v d => v * 16 + d.toNat) v

theorem hexNumeral_nil (v : Nat) : hexNumeral v [] = v := rfl

theorem hexNumeral_cons (v : Nat) (d : Nibble) (ds : List Nibble) :
    hexNumeral v (d :: ds) = hexNumeral (v * 16 + d.toNat) ds := rfl

theorem hexNumeral_eq_add (v : Nat) (ds : List Nibble) : hexNumeral v ds = v * 16 ^ ds.length + hexNumeral 0 ds := by
  induction ds generalizing v with
  | nil => simp [hexNumeral_nil]
  | cons d ds ih =>
    rw [hexNumeral_cons, hexNumeral_cons, ih, ih (0 * 16 + d.toNat), List.length_cons]
    ring

theorem hexNumeral_zero_lt (ds : List Nibble) : hexNumeral 0 ds < 16 ^ ds.length := by
  induction ds with
  | nil => simp [hexNumeral_nil]
  | cons d ds ih =>
    have hd : (d.toNat + 1) * 16 ^ ds.length ≤ 16 * 16 ^ ds.length := Nat.mul_le_mul_right _ d.isLt
    rw [hexNumeral_cons, hexNumeral_eq_add, List.length_cons, Nat.pow_succ]
    linarith

/-- Digits append to the numeral in ACC, as far as 32 bits hold it (R121). -/
theorem State.toNat_acc_afterDigits (s : State) (ds : List Nibble) :
    (s.afterDigits ds).acc.toNat = hexNumeral s.acc.toNat ds % 2 ^ 32 := by
  induction ds generalizing s with
  | nil => exact (Nat.mod_eq_of_lt s.acc.isLt).symm
  | cons d ds ih =>
    refine (ih (s.afterDigit d)).trans ?_
    rw [State.afterDigit_acc, toNat_shiftIn, hexNumeral_cons, hexNumeral_eq_add,
      hexNumeral_eq_add (s.acc.toNat * 16 + d.toNat)]
    exact Nat.ModEq.add_right _ (Nat.ModEq.mul_right _ (Nat.mod_modEq _ _))

/-- Eight digits push out all that ACC held before (R122). -/
theorem State.toNat_acc_afterDigits_of_length_eq_eight (s : State) {ds : List Nibble} (h : ds.length = 8) :
    (s.afterDigits ds).acc.toNat = hexNumeral 0 ds := by
  have hlt := hexNumeral_zero_lt ds
  rw [State.toNat_acc_afterDigits, hexNumeral_eq_add]
  rw [h] at hlt ⊢
  omega

theorem hexNumeral_eight (d0 d1 d2 d3 d4 d5 d6 d7 : Nibble) :
    hexNumeral 0 [d0, d1, d2, d3, d4, d5, d6, d7] =
      d0.toNat * 16 ^ 7 + d1.toNat * 16 ^ 6 + d2.toNat * 16 ^ 5 + d3.toNat * 16 ^ 4 + d4.toNat * 16 ^ 3 +
        d5.toNat * 16 ^ 2 + d6.toNat * 16 + d7.toNat := by
  simp only [hexNumeral_cons, hexNumeral_nil]
  omega

theorem toNat_append_eight (d0 d1 d2 d3 d4 d5 d6 d7 : Nibble) :
    (d0 ++ d1 ++ d2 ++ d3 ++ d4 ++ d5 ++ d6 ++ d7).toNat = hexNumeral 0 [d0, d1, d2, d3, d4, d5, d6, d7] := by
  simp only [toNat_append_nibble, hexNumeral_cons, hexNumeral_nil, Nat.zero_mul, Nat.zero_add]

/-- The eighth digit of a group fires the select of the group on the word it completes (R85, R102). -/
theorem fireSelect_eighth_digit {u : State} (h : u.legal = true) (hr : u.status = .run) (h7 : digitIndex u.cnt = 7#3)
    (d : Nibble) : fireSelect (groupIndex u.cnt) (shiftIn u.acc d) (u.advance (shiftIn u.acc d)) =
      .next (u.afterDigit d) := by
  rw [← State.shiftDigit_eq h hr, State.shiftDigit, if_pos h7]

/-- From the seventh digit of the group that begins at position cnt, the step with the eighth is the select of that group. -/
theorem fireSelect_completed_group {u : State} (h : u.legal = true) (hr : u.status = .run) {cnt : Position}
    (hbegin : cnt.toNat % 8 = 0) (hcnt : u.cnt.toNat = cnt.toNat + 7) (d : Nibble) :
    fireSelect (groupIndex cnt) (u.afterDigit d).acc
        { u with acc := (u.afterDigit d).acc, cnt := cnt + 8#7, status := (u.afterDigit d).status } =
      .next (u.afterDigit d) := by
  have h7 : digitIndex u.cnt = 7#3 := BitVec.eq_of_toNat_eq (by rw [digitIndex_toNat, hcnt, BitVec.toNat_ofNat]; omega)
  have hgroup : groupIndex cnt = groupIndex u.cnt :=
    BitVec.eq_of_toNat_eq (by rw [groupIndex_toNat, groupIndex_toNat, hcnt]; omega)
  have hend : cnt + 8#7 = u.cnt + 1#7 := by bv_omega
  rw [hgroup, hend, State.afterDigit_acc, State.afterDigit_status]
  exact fireSelect_eighth_digit h hr h7 d

/-- Settles O34: the digits of the group are taken one by one; the value of ACC after them is their numeral, which is that
of the eight nibbles put together; and the last of the steps is the one that fires the select. -/
theorem groupWordIsItsEightNibbles : Obligations.GroupWordIsItsEightNibbles := by
  intro s c0 c1 c2 c3 c4 c5 c6 c7 d0 d1 d2 d3 d4 d5 d6 d7 hlegal hrun hfirst h0 h1 h2 h3 h4 h5 h6 h7
  have hne : s.status ≠ .err := by rw [hrun]; decide
  have hbegin : s.cnt.toNat % 8 = 0 := by rw [← digitIndex_toNat, digitIndex, hfirst]; rfl
  have hcnt : s.cnt.toNat ≤ 79 := (s.legal_run hlegal hrun).1
  have hvalues8 : [c0, c1, c2, c3, c4, c5, c6, c7].map hexVal = [d0, d1, d2, d3, d4, d5, d6, d7].map some := by
    simp only [List.map_cons, List.map_nil, h0, h1, h2, h3, h4, h5, h6, h7]
  have hvalues7 : [c0, c1, c2, c3, c4, c5, c6].map hexVal = [d0, d1, d2, d3, d4, d5, d6].map some :=
    congrArg (List.take 7) hvalues8
  obtain ⟨hrun8, -⟩ := runProgram_digits hvalues8 hlegal hne (by omega : s.cnt.toNat + 8 ≤ 80)
  obtain ⟨hrun7, hulegal, hune, (hucnt : _ = s.cnt.toNat + 7)⟩ :=
    runProgram_digits hvalues7 hlegal hne (by omega : s.cnt.toNat + 7 ≤ 80)
  have hvalue := s.toNat_acc_afterDigits_of_length_eq_eight (ds := [d0, d1, d2, d3, d4, d5, d6, d7]) rfl
  refine ⟨_, _, hrun8, ?nibbles, ?sum, ?numeral, hrun7, ?select⟩
  case nibbles =>
    rw [State.withInputs_acc]
    exact BitVec.eq_of_toNat_eq (hvalue.trans (toNat_append_eight ..).symm)
  case sum => rw [State.withInputs_acc, hvalue, hexNumeral_eight]
  case numeral => rw [State.withInputs_acc, hvalue, hexNumeral]
  case select =>
    have hurun := State.run_of_cnt_lt hulegal hune (by omega)
    have hlast : s.afterDigits [d0, d1, d2, d3, d4, d5, d6, d7] =
        (s.afterDigits [d0, d1, d2, d3, d4, d5, d6]).afterDigit d7 := rfl
    rw [hlast, ← State.afterDigit_withInputs]
    generalize s.afterDigits [d0, d1, d2, d3, d4, d5, d6] = u at *
    exact fireSelect_completed_group (u := u.withInputs []) hulegal hurun hbegin hucnt d7

end Sys2Proof.Machine
end

section
/-! Scalar extractors (42_scalar_extractors.md): shift and mask as a slice and as arithmetic; the fields of a word put
together; what a select and an extractor write; which position a field register can change at. -/

namespace Sys2Proof.Machine

/-! ### Extraction -/

theorem toNat_extract {p w : Nat} (h : p + w ≤ 32) (word : Word) :
    (extract word p w).toNat = word.toNat / 2 ^ p % 2 ^ w := by
  rw [extract_eq_slice word p w h, BitVec.extractLsb'_toNat, Nat.shiftRight_eq_div_pow]

/-- Settles O44: the slice is shift and remainder of the word's value, and a value of w bits is below 2^w. -/
theorem extractIsTheBitSlice : Obligations.ExtractIsTheBitSlice := fun word p w _ h =>
  ⟨extract_eq_slice word p w h, toNat_extract h word, Nat.le_sub_one_of_lt (extract word p w).isLt⟩

/-! ### The fields of a word -/

/-- Three neighbouring slices that begin at bit 0 are one slice. -/
theorem extractLsb'_append_three {n : Nat} (w : BitVec n) (a b c : Nat) :
    w.extractLsb' (c + b) a ++ w.extractLsb' c b ++ w.extractLsb' 0 c = w.extractLsb' 0 (a + b + c) := by
  rw [BitVec.extractLsb'_append_extractLsb'_eq_extractLsb' rfl,
    BitVec.extractLsb'_append_extractLsb'_eq_extractLsb' (Nat.zero_add c).symm]

/-- Settles O45: the fields of a word are neighbouring slices, which join to all of it; and each part of a word put
together is the slice at its place. -/
theorem extractionLosesNoBit : Obligations.ExtractionLosesNoBit := by
  simp only [Obligations.ExtractionLosesNoBit, highHalf_eq_slice, lowHalf_eq_slice, extract_eq_slice, Nat.reduceAdd,
    Nat.reduceLeDiff]
  refine ⟨fun w => ⟨?wordG0, ?wordG1, ?wordGA⟩, ?fieldsG0, ?fieldsG1, ?fieldsGA⟩
  case wordG0 => exact (extractLsb'_append_three w 4 8 20).trans BitVec.extractLsb'_eq_self
  case wordG1 => exact (extractLsb'_append_three w 16 8 8).trans BitVec.extractLsb'_eq_self
  case wordGA => exact BitVec.extractLsb'_append_extractLsb'
  case fieldsG0 => rintro v c f _ rfl; exact extractLsb'_append_append v c f
  case fieldsG1 => rintro pl n h _ rfl; exact extractLsb'_append_append pl n h
  case fieldsGA =>
    rintro a b _ rfl
    exact ⟨BitVec.extractLsb'_append_eq_left, BitVec.extractLsb'_append_eq_right⟩

/-! ### What the operations write -/

theorem exec_select_eq_referenceCommit {key : GroupKey} (hkey : key ≤ 9#4) {w : Word} {i : Instr}
    (hi : decode (.select key w) = .ok i) (s : State) : exec i s = .next (referenceCommit s key.toNat w) := by
  rw [← fireSelect_eq_exec hi, fireSelect_eq key w s hkey]

/-- A digit at the last position of a group but the last leaves STATE alone and runs the select of the group on the word
it completes (R85, R102). -/
theorem clockEdge_completes_group {s : State} (h : s.legal = true) (hr : s.status = .run) {c : Symbol} {d : Nibble}
    (hd : hexVal c = some d) {cnt : Position} (hcnt : s.cnt = cnt) (h7 : digitIndex cnt = 7#3) (h79 : cnt ≠ 79#7)
    {i : Instr} (hi : decode (.select (groupIndex cnt) (shiftIn s.acc d)) = .ok i) :
    clockEdge s (charSample c) = exec i { s with acc := shiftIn s.acc d, cnt := cnt + 1#7 } := by
  subst hcnt
  rw [clockEdge_eighth_digit h hr hd h7 hi, State.advance, statusAfterDigit, if_neg h79]

/-- Settles O9: the two selects write what R108 writes for groups 0 and 1, and the digit at the last position of each
group runs them. -/
theorem scalarSelectsWriteTheirFields : Obligations.ScalarSelectsWriteTheirFields :=
  ⟨fun s _ => ⟨exec_select_eq_referenceCommit (key := 0#4) (by decide) rfl s,
      exec_select_eq_referenceCommit (key := 1#4) (by decide) rfl s⟩,
    fun _ _ _ hlegal hrun hd => ⟨fun hcnt => clockEdge_completes_group hlegal hrun hd hcnt rfl (by decide) rfl,
      fun hcnt => clockEdge_completes_group hlegal hrun hd hcnt rfl (by decide) rfl⟩⟩

/-- Settles O12: each letter is the encoding of its extractor, each extractor writes the masked shift, and that is the
slice of the field. -/
theorem scalarExtractorsShiftAndMask : Obligations.ScalarExtractorsShiftAndMask := fun _ w =>
  ⟨decode_encode (.extVersion w), rfl, extract_eq_slice w 28 4 (by decide),
    decode_encode (.extTrafficClass w), rfl, extract_eq_slice w 20 8 (by decide),
    decode_encode (.extFlowLabel w), rfl, extract_eq_slice w 0 20 (by decide),
    decode_encode (.extPayloadLength w), rfl, extract_eq_slice w 16 16 (by decide),
    decode_encode (.extNextHeader w), rfl, extract_eq_slice w 8 8 (by decide),
    decode_encode (.extHopLimit w), rfl, extract_eq_slice w 0 8 (by decide)⟩

/-! ### When a field register changes -/

/-- A commit writes the same fields whatever ACC, CNT and STATE the digit leaves. -/
theorem fieldRegisters_referenceCommit_advance (s : State) (g : Nat) (w v : Word) :
    (referenceCommit (s.advance v) g w).fieldRegisters = (referenceCommit s g w).fieldRegisters := by
  unfold referenceCommit
  split_ifs <;> rfl

/-- The eighth digit of a group commits that group; any other digit leaves the fields alone (R31, R161). -/
theorem State.fieldRegisters_afterDigit_cases {s : State} (hcnt : s.cnt ≤ 79#7) (d : Nibble) :
    (s.afterDigit d).fieldRegisters = s.fieldRegisters ∨
    ∃ g ≤ 9, s.cnt.toNat = 8 * g + 7 ∧
      (s.afterDigit d).fieldRegisters = (referenceCommit s g (shiftIn s.acc d)).fieldRegisters := by
  by_cases h7 : digitIndex s.cnt = 7#3
  · have hdigit : s.cnt.toNat % 8 = 7 := by rw [← digitIndex_toNat, h7]; rfl
    refine .inr ⟨(groupIndex s.cnt).toNat, groupIndex_le hcnt, ?_, ?_⟩
    · rw [groupIndex_toNat]
      omega
    · rw [State.afterDigit_of_eighth h7, fieldRegisters_referenceCommit_advance]
  · rw [State.afterDigit_of_not_eighth h7]
    exact .inl rfl

/-- Without rst and START the fields change in one way alone: a digit in RUN commits the group it completes. -/
theorem clockEdge_fieldRegisters_cases {s t : State} {p : InputSample} (h : clockEdge s p = .next t)
    (hr : p.rst = false) (hc : p.cmd ≠ Config.cmdStart) :
    t.fieldRegisters = s.fieldRegisters ∨
    (s.status = .run ∧ p.cmd = Config.cmdChar ∧ (hexVal p.data).isSome = true) ∧
      ∃ g ≤ 9, s.cnt.toNat = 8 * g + 7 ∧ ∃ w, t.fieldRegisters = (referenceCommit s g w).fieldRegisters := by
  obtain ⟨-, hclear⟩ | ⟨-, -, rfl, -⟩ | ⟨-, -, -, -, rfl⟩ | ⟨-, -, -, -, -, rfl⟩ |
    ⟨-, hlegal, hrun, hcmd, d, hd, rfl⟩ := clockEdge_next h
  · exact absurd (hclear.resolve_left (by simp [hr])) hc
  · exact .inl rfl
  · exact .inl rfl
  · exact .inl rfl
  · refine (State.fieldRegisters_afterDigit_cases (s.legal_run hlegal hrun).1 d).imp_right ?_
    rintro ⟨g, hg, hcnt, hfields⟩
    exact ⟨⟨hrun, hcmd, by rw [hd]; rfl⟩, g, hg, hcnt, _, hfields⟩

theorem State.fieldRegisters_eq_iff (s t : State) : s.fieldRegisters = t.fieldRegisters ↔
    s.version = t.version ∧ s.trafficClass = t.trafficClass ∧ s.flowLabel = t.flowLabel ∧
    s.payloadLength = t.payloadLength ∧ s.nextHeader = t.nextHeader ∧ s.hopLimit = t.hopLimit ∧
    s.src = t.src ∧ s.dst = t.dst := by
  simp [State.fieldRegisters]

/-- Settles O16: either the fields stay, or a digit commits the group g of its position, and a register that differs
after that commit is one of group g. -/
theorem fieldRegistersKeepTheirValueOtherwise : Obligations.FieldRegistersKeepTheirValueOtherwise := by
  intro s t p hrst hcmd hedge
  obtain hkeep | ⟨hdigit, g, hg, hcnt, w, hfields⟩ := clockEdge_fieldRegisters_cases hedge hrst hcmd
  · obtain ⟨hv, htc, hfl, hpl, hnh, hhl, hsrc, hdst⟩ := (State.fieldRegisters_eq_iff t s).mp hkeep
    simp [hkeep, hv, htc, hfl, hpl, hnh, hhl, hsrc, hdst]
  · obtain ⟨hv, htc, hfl, hpl, hnh, hhl, hsrc, hdst⟩ := (State.fieldRegisters_eq_iff t _).mp hfields
    obtain ⟨hversion, htrafficClass, hflowLabel⟩ := referenceCommit_group0 s g w
    obtain ⟨hpayloadLength, hnextHeader, hhopLimit⟩ := referenceCommit_group1 s g w
    refine ⟨fun hne => ?group0, fun hne => ?group1, fun k hne => ?src, fun k hne => ?dst, fun _ => hdigit⟩
    case group0 =>
      simp only [hv, htc, hfl, hversion, htrafficClass, hflowLabel, ite_ne_right_iff, ← and_or_left] at hne
      rw [hne.1] at hcnt
      exact BitVec.eq_of_toNat_eq hcnt
    case group1 =>
      simp only [hpl, hnh, hhl, hpayloadLength, hnextHeader, hhopLimit, ite_ne_right_iff, ← and_or_left] at hne
      rw [hne.1] at hcnt
      exact BitVec.eq_of_toNat_eq hcnt
    case src =>
      rw [hsrc, referenceCommit_src s w k hg] at hne
      rw [hcnt, (ite_ne_right_iff.mp hne).1]
    case dst =>
      rw [hdst, referenceCommit_dst s w k hg] at hne
      rw [hcnt, (ite_ne_right_iff.mp hne).1]

end Sys2Proof.Machine
end

section
/-! Address slicers (43_address_slicers.md): the pair of address groups a select writes, the digit that completes group 9,
and what each slicer writes and is decoded from. -/

namespace Sys2Proof.Machine

/-! ### The selects of the address groups -/

theorem State.setSrc_halves (s : State) (k j : Fin 8) (w : Word) :
    (s.setSrc k (highHalf w)).setSrc j (lowHalf w) =
      { s with src := (s.src.set k (w.extractLsb' 16 16)).set j (w.extractLsb' 0 16) } := by
  rw [highHalf_eq_slice, lowHalf_eq_slice]
  rfl

theorem State.setDst_halves (s : State) (k j : Fin 8) (w : Word) :
    (s.setDst k (highHalf w)).setDst j (lowHalf w) =
      { s with dst := (s.dst.set k (w.extractLsb' 16 16)).set j (w.extractLsb' 0 16) } := by
  rw [highHalf_eq_slice, lowHalf_eq_slice]
  rfl

/-- The digit at position 79 sets DONE in the step that runs SEL_G9 on the word it completes (R106, R177). -/
theorem clockEdge_completes_last_group {s : State} (h : s.legal = true) (hr : s.status = .run) {c : Symbol}
    {d : Nibble} (hd : hexVal c = some d) (hcnt : s.cnt = 79#7) :
    clockEdge s (charSample c) =
      exec (.selG9 (shiftIn s.acc d)) { s with acc := shiftIn s.acc d, cnt := 80#7, status := .done } := by
  have heighth : digitIndex s.cnt = 7#3 := by rw [hcnt]; rfl
  have hselect : decode (.select (groupIndex s.cnt) (shiftIn s.acc d)) = .ok (.selG9 (shiftIn s.acc d)) := by
    rw [hcnt]; rfl
  rw [clockEdge_eighth_digit h hr hd heighth hselect, State.advance, statusAfterDigit, if_pos hcnt, hcnt]
  rfl

/-- Settles O10: each select fires the slicers of the high and the low half one after the other, and the digit at the
last position of its group runs it. -/
theorem sourceSelectsWriteTheirPair : Obligations.SourceSelectsWriteTheirPair := by
  refine ⟨fun s w => ⟨?selG2, ?selG3, ?selG4, ?selG5⟩, fun s c d hlegal hrun hd => ?fires⟩
  case selG2 => exact congrArg Host.Outcome.next (s.setSrc_halves 0 1 w)
  case selG3 => exact congrArg Host.Outcome.next (s.setSrc_halves 2 3 w)
  case selG4 => exact congrArg Host.Outcome.next (s.setSrc_halves 4 5 w)
  case selG5 => exact congrArg Host.Outcome.next (s.setSrc_halves 6 7 w)
  case fires =>
    and_intros <;> exact fun hcnt => clockEdge_completes_group hlegal hrun hd hcnt rfl (by decide) rfl

/-- Settles O11: each select fires the slicers of the high and the low half one after the other, and the digit at the
last position of its group runs it; that of group 9 is the last digit of the text. -/
theorem destinationSelectsWriteTheirPair : Obligations.DestinationSelectsWriteTheirPair := by
  refine ⟨fun s w => ⟨?selG6, ?selG7, ?selG8, ?selG9⟩, fun s c d hlegal hrun hd =>
    ⟨?fires6, ?fires7, ?fires8, clockEdge_completes_last_group hlegal hrun hd⟩⟩
  case selG6 => exact congrArg Host.Outcome.next (s.setDst_halves 0 1 w)
  case selG7 => exact congrArg Host.Outcome.next (s.setDst_halves 2 3 w)
  case selG8 => exact congrArg Host.Outcome.next (s.setDst_halves 4 5 w)
  case selG9 => exact congrArg Host.Outcome.next (s.setDst_halves 6 7 w)
  all_goals exact fun hcnt => clockEdge_completes_group hlegal hrun hd hcnt rfl (by decide) rfl

/-! ### The slicers -/

/-- Settles O13: each letter is the encoding of its slicer (R80), and each slicer writes its one address group with the
masked shift that its half is defined as (R195). -/
theorem sourceSlicersWriteOneGroup : Obligations.SourceSlicersWriteOneGroup := fun _ w =>
  ⟨decode_encode (.sliceSrc0 w), rfl, decode_encode (.sliceSrc1 w), rfl,
    decode_encode (.sliceSrc2 w), rfl, decode_encode (.sliceSrc3 w), rfl,
    decode_encode (.sliceSrc4 w), rfl, decode_encode (.sliceSrc5 w), rfl,
    decode_encode (.sliceSrc6 w), rfl, decode_encode (.sliceSrc7 w), rfl⟩

/-- Settles O14: each letter is the encoding of its slicer (R80), and each slicer writes its one address group with the
masked shift that its half is defined as (R195). -/
theorem destinationSlicersWriteOneGroup : Obligations.DestinationSlicersWriteOneGroup := fun _ w =>
  ⟨decode_encode (.sliceDst0 w), rfl, decode_encode (.sliceDst1 w), rfl,
    decode_encode (.sliceDst2 w), rfl, decode_encode (.sliceDst3 w), rfl,
    decode_encode (.sliceDst4 w), rfl, decode_encode (.sliceDst5 w), rfl,
    decode_encode (.sliceDst6 w), rfl, decode_encode (.sliceDst7 w), rfl⟩

end Sys2Proof.Machine
end

section
/-! Reference function (44_reference_function.md), the function alone: which result Decode gives, that it reads the first
80 symbols only, and that Encode inverts it. -/

namespace Sys2Proof.Machine

/-! ### Which result Decode gives -/

section
variable {t : Text}

theorem firstNonDigit_eq_none_iff : firstNonDigit t = none ↔ ∀ c ∈ t.take 80, (hexVal c).isSome = true := by
  rw [firstNonDigit, List.findIdx?_eq_none_iff]
  simp [Config.nChars, Option.isSome_iff_ne_none]

/-- The first non-digit is a non-digit below min(len(t), 80) with digits alone before it (R200). -/
theorem firstNonDigit_eq_some {i : Nat} (h : firstNonDigit t = some i) :
    i < 80 ∧ (∀ c ∈ t.take i, (hexVal c).isSome = true) ∧ ∃ hi : i < t.length, hexVal t[i] = none := by
  obtain ⟨hlt, hnone, hbefore⟩ := List.findIdx?_eq_some_iff_getElem.mp h
  obtain ⟨hi80, hi⟩ : i < 80 ∧ i < t.length := by simpa [Config.nChars] using hlt
  refine ⟨hi80, fun c hc => ?_, hi, by simpa using hnone⟩
  obtain ⟨j, hj, rfl⟩ := List.mem_take_iff_getElem.mp hc
  simpa [Option.isSome_iff_ne_none] using hbefore j (by omega)

theorem decodeText_eq_ok_iff {r : HeaderRecord} : decodeText t = .ok r ↔
    80 ≤ t.length ∧ (∀ c ∈ t.take 80, (hexVal c).isSome = true) ∧ r = recordOf (groupWords t) := by
  rw [← firstNonDigit_eq_none_iff, decodeText]
  cases firstNonDigit t with
  | some i => simp
  | none =>
    by_cases hlen : t.length < 80
    · simp [Config.nChars, hlen, hlen.not_ge]
    · simp [Config.nChars, hlen, Nat.le_of_not_lt hlen, eq_comm]

theorem decodeText_eq_error_iff {cause : ErrCause} {pos : Nat} : decodeText t = .error cause pos ↔
    cause = .nonHex ∧ firstNonDigit t = some pos ∨
    cause = .shortInput ∧ t.length < 80 ∧ (∀ c ∈ t, (hexVal c).isSome = true) ∧ pos = t.length := by
  have hshort (hlen : t.length < 80) : firstNonDigit t = none ↔ ∀ c ∈ t, (hexVal c).isSome = true := by
    rw [firstNonDigit_eq_none_iff, List.take_of_length_le hlen.le]
  rw [decodeText]
  cases hfirst : firstNonDigit t with
  | some i => grind
  | none => grind [Config.nChars]

end

/-! ### Symbols that Decode does not read -/

theorem nibbleAt_take {n i : Nat} (h : i < n) (t : Text) : nibbleAt (t.take n) i = nibbleAt t i := by
  rw [nibbleAt, nibbleAt, List.getD_eq_getElem?_getD, List.getD_eq_getElem?_getD, List.getElem?_take_of_lt h]

theorem groupWord_take {n g : Nat} (h : 8 * g + 7 < n) (t : Text) : groupWord (t.take n) g = groupWord t g := by
  have hnibble (j : Nat) (hj : j ≤ 8 * g + 7) : nibbleAt (t.take n) j = nibbleAt t j := nibbleAt_take (by omega) t
  rw [groupWord, hnibble, hnibble, hnibble, hnibble, hnibble, hnibble, hnibble, hnibble, groupWord] <;> omega

theorem groupWords_take (t : Text) : groupWords (t.take 80) = groupWords t := by
  ext g hg
  rw [getElem_groupWords _ g hg, getElem_groupWords _ g hg, groupWord_take (by omega)]

theorem firstNonDigit_take (t : Text) : firstNonDigit (t.take 80) = firstNonDigit t := by
  rw [firstNonDigit, firstNonDigit, Config.nChars, List.take_take, Nat.min_self]

theorem decodeText_take {t : Text} (h : 80 ≤ t.length) : decodeText (t.take 80) = decodeText t := by
  have hlen : (t.take 80).length = 80 := by simpa using h
  rw [decodeText, decodeText, firstNonDigit_take, groupWords_take, hlen, Config.nChars, if_neg h.not_gt,
    if_neg (by decide)]

theorem firstNonDigit_append_of_eq_some {t : Text} {i : Nat} (h : firstNonDigit t = some i) (u : Text) :
    firstNonDigit (t ++ u) = some i := by
  rw [firstNonDigit] at h ⊢
  rw [List.take_append, List.findIdx?_append, h, Option.some_or]

/-- Settles O39: 80 symbols are all that Decode reads, and no more than a non-digit among them; a short text of digits is
reported at its end, which a digit moves; the machine ignores the commands after the end. -/
theorem excessCharactersAreIgnored : Obligations.ExcessCharactersAreIgnored := by
  refine ⟨fun t u hlen => ?after80, fun t u hbad => ?afterNonDigit, fun t u hlen hdigits hne hdigits' heq => ?short,
    fun s p hlegal hs hrst hcmd => clockEdge_not_run hlegal hs hrst hcmd⟩
  case after80 =>
    have hlen' : 80 ≤ (t ++ u).length := by rw [List.length_append]; omega
    rw [← decodeText_take hlen', List.take_append_of_le_length hlen]
  case afterNonDigit =>
    obtain ⟨c, hc, hnone⟩ := hbad
    have hfirst : firstNonDigit t ≠ none := fun h => by simpa [hnone] using firstNonDigit_eq_none_iff.mp h c hc
    obtain ⟨i, hi⟩ := Option.ne_none_iff_exists'.mp hfirst
    rw [decodeText_eq_error_iff.mpr (.inl ⟨rfl, hi⟩),
      decodeText_eq_error_iff.mpr (.inl ⟨rfl, firstNonDigit_append_of_eq_some hi u⟩)]
  case short =>
    rw [decodeText_eq_error_iff.mpr (.inr ⟨rfl, hlen, hdigits, rfl⟩)] at heq
    obtain ⟨hcause, -⟩ | ⟨-, -, -, hpos⟩ := decodeText_eq_error_iff.mp heq
    · cases hcause
    · exact hne (by simpa using hpos)

/-! ### The digits of a text -/

/-- The values of the first n symbols of a text of digits. -/
def textDigits (t : Text) (n : Nat) : List Nibble := (List.range n).map (nibbleAt t)

@[simp] theorem length_textDigits (t : Text) (n : Nat) : (textDigits t n).length = n := by simp [textDigits]

theorem textDigits_succ (t : Text) (n : Nat) : textDigits t (n + 1) = textDigits t n ++ [nibbleAt t n] := by
  simp [textDigits, List.range_succ]

theorem hexVal_getElem {t : Text} {i : Nat} (hi : i < t.length) (h : (hexVal t[i]).isSome = true) :
    hexVal t[i] = some (nibbleAt t i) := by
  obtain ⟨d, hd⟩ := Option.isSome_iff_exists.mp h
  rw [nibbleAt, List.getD_eq_getElem _ _ hi, hd, Option.getD_some]

theorem map_hexVal_take {t : Text} {n : Nat} (hn : n ≤ t.length) (h : ∀ c ∈ t.take n, (hexVal c).isSome = true) :
    (t.take n).map hexVal = (textDigits t n).map some := by
  have hlen : (t.take n).length = n := List.length_take_of_le hn
  refine List.ext_getElem (by simpa using hn) fun i hi _ => ?_
  have hi : i < (t.take n).length := by simpa using hi
  have hdigit := hexVal_getElem hi (h _ (List.getElem_mem hi))
  rw [nibbleAt_take (hlen ▸ hi)] at hdigit
  simpa [textDigits] using hdigit

end Sys2Proof.Machine
end

section
/-! Reference function (44_reference_function.md): Encode inverts Decode. -/

namespace Sys2Proof.Machine

/-! ### Lower-case digits -/

theorem lowerCase_eq_digitSymbol : ∀ (c : Symbol) (d : Nibble), hexVal c = some d → lowerCase c = digitSymbol d := by
  decide +kernel

theorem map_lowerCase_eq_map_digitSymbol {t : Text} {ds : List Nibble} (h : t.map hexVal = ds.map some) :
    t.map lowerCase = ds.map digitSymbol := by
  induction ds generalizing t with
  | nil => rw [List.map_eq_nil_iff.mp h, List.map_nil, List.map_nil]
  | cons d ds ih =>
    obtain ⟨c, t, rfl, hc, ht⟩ := List.map_eq_cons_iff.mp h
    rw [List.map_cons, List.map_cons, lowerCase_eq_digitSymbol c d hc, ih ht]

/-! ### The digits of a word -/

theorem wordDigits_append_eight (d0 d1 d2 d3 d4 d5 d6 d7 : Nibble) :
    wordDigits (d0 ++ d1 ++ d2 ++ d3 ++ d4 ++ d5 ++ d6 ++ d7) = [d0, d1, d2, d3, d4, d5, d6, d7].map digitSymbol := by
  simp only [wordDigits, List.map_cons, List.map_nil, List.cons.injEq, and_true]
  and_intros <;> congr 1 <;> repeat rw [BitVec.extractLsb'_append_eq_of_le (by decide)]
  · exact BitVec.extractLsb'_eq_self
  all_goals exact BitVec.extractLsb'_append_eq_right

theorem wordDigits_groupWord (t : Text) (g : Nat) :
    wordDigits (groupWord t g) = (List.range 8).map fun j => digitSymbol (nibbleAt t (8 * g + j)) :=
  wordDigits_append_eight _ _ _ _ _ _ _ _

theorem append_slices_eight (w : Word) :
    w.extractLsb' 28 4 ++ w.extractLsb' 24 4 ++ w.extractLsb' 20 4 ++ w.extractLsb' 16 4 ++ w.extractLsb' 12 4 ++
      w.extractLsb' 8 4 ++ w.extractLsb' 4 4 ++ w.extractLsb' 0 4 = w := by
  have join (k n : Nat) : w.extractLsb' (k + 4) n ++ w.extractLsb' k 4 = w.extractLsb' k (n + 4) :=
    BitVec.extractLsb'_append_extractLsb'_eq_extractLsb' rfl
  rw [join 24, join 20, join 16, join 12, join 8, join 4, join 0]
  exact BitVec.extractLsb'_eq_self

theorem groupWord_wordDigits_append (w : Word) (t : Text) : groupWord (wordDigits w ++ t) 0 = w := by
  refine Eq.trans ?_ (append_slices_eight w)
  simp [groupWord, nibbleAt, wordDigits, hexVal_digitSymbol]

theorem nibbleAt_append_add (t u : Text) (i : Nat) : nibbleAt (t ++ u) (t.length + i) = nibbleAt u i := by
  rw [nibbleAt, nibbleAt, List.getD_append_right _ _ _ _ (Nat.le_add_right _ _), Nat.add_sub_cancel_left]

theorem groupWord_append_succ {t : Text} (h : t.length = 8) (u : Text) (g : Nat) :
    groupWord (t ++ u) (g + 1) = groupWord u g := by
  have hnibble (j : Nat) : nibbleAt (t ++ u) (8 * (g + 1) + j) = nibbleAt u (8 * g + j) := by
    rw [show 8 * (g + 1) + j = t.length + (8 * g + j) by omega, nibbleAt_append_add]
  have hfirst : nibbleAt (t ++ u) (8 * (g + 1)) = nibbleAt u (8 * g) := hnibble 0
  simp only [groupWord, hnibble, hfirst]

/-- A text of words written as digits has those words as its groups (R203). -/
theorem groupWord_flatMap_wordDigits (ws : List Word) {g : Nat} (hg : g < ws.length) :
    groupWord (ws.flatMap wordDigits) g = ws[g] := by
  induction ws generalizing g with
  | nil => cases hg
  | cons w ws ih =>
    rw [List.flatMap_cons]
    cases g with
    | zero => exact groupWord_wordDigits_append w _
    | succ g => exact (groupWord_append_succ rfl _ g).trans (ih (Nat.lt_of_succ_lt_succ hg))

/-! ### The words of a record -/

/-- The fields of each word of a record put together are the word again (R160 (e)). -/
theorem recordWords_recordOf (w : Vector Word 10) :
    recordWords (recordOf w) = [w[0], w[1], w[2], w[3], w[4], w[5], w[6], w[7], w[8], w[9]] := by
  have hhalves (x : Word) : x.extractLsb' 16 16 ++ x.extractLsb' 0 16 = x := BitVec.extractLsb'_append_extractLsb'
  have hG0 := (extractLsb'_append_three w[0] 4 8 20).trans BitVec.extractLsb'_eq_self
  have hG1 := (extractLsb'_append_three w[1] 16 8 8).trans BitVec.extractLsb'_eq_self
  simpa [recordWords, recordOf, addressOf, hhalves] using And.intro hG0 hG1

theorem addressGroups_ext {a b : Vector AddrGroup 8} (h : ∀ k : Fin 8, a[k] = b[k]) : a = b :=
  Vector.ext fun k hk => h ⟨k, hk⟩

theorem addressOf_pairs (a : Vector AddrGroup 8) :
    addressOf (a[0] ++ a[1]) (a[2] ++ a[3]) (a[4] ++ a[5]) (a[6] ++ a[7]) = a := by
  simp only [addressOf, BitVec.extractLsb'_append_eq_left, BitVec.extractLsb'_append_eq_right]
  exact addressGroups_ext fun k => by fin_cases k <;> rfl

theorem recordOf_recordWords (r : HeaderRecord) {w : Vector Word 10}
    (h : ∀ g (hg : g < 10), w[g] = (recordWords r)[g]) : recordOf w = r := by
  obtain ⟨version, trafficClass, flowLabel, payloadLength, nextHeader, hopLimit, src, dst⟩ := r
  obtain ⟨hversion, htrafficClass, hflowLabel⟩ := extractLsb'_append_append version trafficClass flowLabel
  obtain ⟨hpayloadLength, hnextHeader, hhopLimit⟩ := extractLsb'_append_append payloadLength nextHeader hopLimit
  simp only [recordOf, h, HeaderRecord.mk.injEq]
  exact ⟨hversion, htrafficClass, hflowLabel, hpayloadLength, hnextHeader, hhopLimit, addressOf_pairs src,
    addressOf_pairs dst⟩

theorem recordOf_groupWords_encodeRecord (r : HeaderRecord) : recordOf (groupWords (encodeRecord r)) = r := by
  refine recordOf_recordWords r fun g hg => ?_
  rw [getElem_groupWords _ g hg]
  exact groupWord_flatMap_wordDigits (recordWords r) hg

theorem length_encodeRecord (r : HeaderRecord) : (encodeRecord r).length = 80 := rfl

theorem isSome_hexVal_of_mem_encodeRecord {r : HeaderRecord} {c : Symbol} (hc : c ∈ encodeRecord r) :
    (hexVal c).isSome = true := by
  obtain ⟨w, -, hw⟩ := List.mem_flatMap.mp hc
  have hall : ∀ c ∈ wordDigits w, (hexVal c).isSome = true := by simp [wordDigits, hexVal_digitSymbol]
  exact hall c hw

/-- The ten words of the record are the ten groups of the text, each written as its eight digits (R203). -/
theorem encodeRecord_recordOf_groupWords (t : Text) :
    encodeRecord (recordOf (groupWords t)) = (textDigits t 80).map digitSymbol := by
  have hwords : recordWords (recordOf (groupWords t)) = (List.range 10).map (groupWord t) :=
    (recordWords_recordOf (groupWords t)).trans (by simp only [getElem_groupWords]; rfl)
  rw [encodeRecord, hwords, List.flatMap_map]
  simp only [wordDigits_groupWord]
  rfl

/-! ### The round trip -/

theorem decodeText_of_digits {t : Text} (hlen : t.length = 80) (h : ∀ c ∈ t, (hexVal c).isSome = true) :
    decodeText t = .ok (recordOf (groupWords t)) :=
  decodeText_eq_ok_iff.mpr ⟨hlen.ge, fun c hc => h c (List.mem_of_mem_take hc), rfl⟩

theorem encodeRecord_eq_map_lowerCase {t : Text} (hlen : t.length = 80) (h : ∀ c ∈ t, (hexVal c).isSome = true) :
    encodeRecord (recordOf (groupWords t)) = t.map lowerCase := by
  have htake : t.take 80 = t := List.take_of_length_le hlen.le
  have hdigits := map_hexVal_take hlen.ge (htake.symm ▸ h)
  rw [htake] at hdigits
  rw [encodeRecord_recordOf_groupWords, map_lowerCase_eq_map_digitSymbol hdigits]

/-- Settles O38: the record of a text is encoded as the digits of the text, and the words of an encoded record are its own
words; so equal records have equal lower-case texts, and Decode does not see the case. -/
theorem decodeAndEncodeTextRoundTrip : Obligations.DecodeAndEncodeTextRoundTrip := by
  refine ⟨fun t hlen h => ?text, fun r => ⟨length_encodeRecord r, ?record⟩, fun t t' hlen hlen' h h' =>
    ⟨fun heq => ?sameRecord, fun hcase => decodeText_congr (map_hexVal_eq_of_map_lowerCase hcase)⟩⟩
  case text =>
    have hencode := encodeRecord_eq_map_lowerCase hlen h
    have hnibble := nibbleAt_congr (map_hexVal_map_lowerCase t)
    exact ⟨_, decodeText_of_digits hlen h, hencode, fun k _ => by rw [hencode, hnibble, hnibble]⟩
  case record =>
    rw [decodeText_of_digits (length_encodeRecord r) fun _ => isSome_hexVal_of_mem_encodeRecord,
      recordOf_groupWords_encodeRecord]
  case sameRecord =>
    rw [decodeText_of_digits hlen h, decodeText_of_digits hlen' h', DecodeResult.ok.injEq] at heq
    rw [← encodeRecord_eq_map_lowerCase hlen h, heq, encodeRecord_eq_map_lowerCase hlen' h']

end Sys2Proof.Machine
end

section
/-! Reference function (44_reference_function.md), the machine against the function: a run is cut into parts and NOP left
out; the digits of a text write the record of its group words; so the machine ends as Decode says. -/

namespace Sys2Proof.Machine

/-! ### The parts of a run -/

theorem runProgram_append (s : State) (ps qs : List InputSample) :
    runProgram s (ps ++ qs) = andThen (runProgram s ps) fun t => runProgram t qs := by
  induction ps generalizing s with
  | nil => rfl
  | cons p ps ih =>
    rw [List.cons_append, runProgram_cons_eq_andThen, runProgram_cons_eq_andThen]
    cases clockEdge s p with
    | next t => exact ih t
    | fault r => rfl
    | refused r => rfl

theorem runProgram_append_singleton {s u v : State} {ps : List InputSample} {p : InputSample}
    (hps : runProgram s ps = .next u) (hp : clockEdge u p = .next v) :
    runProgram s (ps ++ [p]) = .next (v.withInputs []) := by
  rw [runProgram_append, hps, andThen_next, runProgram_cons_eq_andThen, hp]
  rfl

theorem runProgram_start_cons (s : State) (ps : List InputSample) :
    runProgram s (startSample :: ps) = runProgram s.clear ps := by
  rw [runProgram_cons_eq_andThen, clockEdge_start s rfl rfl, andThen_next]

/-- NOP commands anywhere make no difference (R63, R100). -/
theorem runProgram_withoutNops {s : State} (h : s.legal = true) (ps : List InputSample) :
    runProgram s (withoutNops ps) = runProgram s ps := by
  induction ps generalizing s with
  | nil => rfl
  | cons p ps ih =>
    rw [runProgram_cons_eq_andThen, withoutNops, List.filter_cons]
    cases hp : isNop p with
    | true =>
      obtain ⟨hrst, hcmd⟩ : p.rst = false ∧ p.cmd = Config.cmdNop := by simpa [isNop] using hp
      rw [clockEdge_nop s hrst hcmd, State.whenLegal_of_legal h]
      exact ih h
    | false =>
      obtain ⟨t, ht, hlegal⟩ := clockEdge_total h p
      refine (runProgram_cons_eq_andThen s p _).trans ?_
      rw [ht]
      exact ih hlegal

/-! ### The record the digits write -/

/-- The selects of groups 0 to n - 1, each on its word of the text (R85). -/
def State.commitGroups (s : State) (t : Text) : Nat → State
  | 0 => s
  | n + 1 => referenceCommit (s.commitGroups t n) n (groupWord t n)

/-- A commit reads no register that is not a field register. -/
theorem fieldRegisters_referenceCommit_congr {s t : State} (h : s.fieldRegisters = t.fieldRegisters) (g : Nat)
    (w : Word) : (referenceCommit s g w).fieldRegisters = (referenceCommit t g w).fieldRegisters := by
  obtain ⟨hv, htc, hfl, hpl, hnh, hhl, hsrc, hdst⟩ := (State.fieldRegisters_eq_iff s t).mp h
  unfold referenceCommit
  split_ifs <;> simp [State.fieldRegisters, *]

@[simp] theorem State.fieldRegisters_withInputs (s : State) (ps : List InputSample) :
    (s.withInputs ps).fieldRegisters = s.fieldRegisters := rfl

/-- The ten groups together write every field register, whatever it held (R31, R202). -/
theorem State.fieldRegisters_commitGroups_ten (s : State) (t : Text) :
    (s.commitGroups t 10).fieldRegisters = recordOf (groupWords t) := by
  simp only [State.fieldRegisters, recordOf, HeaderRecord.mk.injEq, getElem_groupWords]
  refine ⟨rfl, rfl, rfl, rfl, rfl, rfl, addressGroups_ext ?_, addressGroups_ext ?_⟩
  all_goals simp [State.commitGroups, referenceCommit, addressOf, Fin.forall_fin_succ]

theorem State.afterDigits_append (s : State) (ds es : List Nibble) :
    s.afterDigits (ds ++ es) = (s.afterDigits ds).afterDigits es :=
  List.foldl_append

theorem State.afterDigits_textDigits_succ (s : State) (t : Text) (n : Nat) :
    s.afterDigits (textDigits t (n + 1)) = (s.afterDigits (textDigits t n)).afterDigit (nibbleAt t n) := by
  rw [textDigits_succ, State.afterDigits_append]
  rfl

theorem State.toNat_cnt_afterDigits_textDigits {s : State} (hcnt : s.cnt = 0#7) (t : Text) {n : Nat} (hn : n ≤ 80) :
    (s.afterDigits (textDigits t n)).cnt.toNat = n := by
  induction n with
  | zero => exact congrArg BitVec.toNat hcnt
  | succ n ih =>
    have hn' := ih (by omega)
    rw [State.afterDigits_textDigits_succ, State.afterDigit_cnt, position_succ_toNat, hn']
    exact hn'.trans_le (by omega : n ≤ 79)

theorem textDigits_add_eight (t : Text) (n : Nat) : textDigits t (n + 8) = textDigits t n ++
    [nibbleAt t n, nibbleAt t (n + 1), nibbleAt t (n + 2), nibbleAt t (n + 3), nibbleAt t (n + 4), nibbleAt t (n + 5),
      nibbleAt t (n + 6), nibbleAt t (n + 7)] := by
  rw [textDigits, List.range_add, List.map_append]
  rfl

/-- After the eighth digit of a group ACC is the word of the group (R122). -/
theorem State.acc_afterDigits_textDigits (s : State) (t : Text) (g : Nat) :
    (s.afterDigits (textDigits t (8 * g + 8))).acc = groupWord t g := by
  rw [textDigits_add_eight, State.afterDigits_append]
  refine BitVec.eq_of_toNat_eq ?_
  rw [State.toNat_acc_afterDigits_of_length_eq_eight _ rfl]
  exact (toNat_append_eight ..).symm

/-- Digits from position 0 on have committed the groups they complete, and no other (R31, R161). -/
theorem State.fieldRegisters_afterDigits_textDigits {s : State} (hcnt : s.cnt = 0#7) (t : Text) {n : Nat} (hn : n ≤ 80) :
    (s.afterDigits (textDigits t n)).fieldRegisters = (s.commitGroups t (n / 8)).fieldRegisters := by
  induction n with
  | zero => rfl
  | succ n ih =>
    have hpos := State.toNat_cnt_afterDigits_textDigits hcnt t (Nat.le_of_succ_le hn)
    specialize ih (Nat.le_of_succ_le hn)
    by_cases h7 : n % 8 = 7
    · obtain ⟨g, rfl⟩ : ∃ g, n = 8 * g + 7 := ⟨n / 8, by omega⟩
      have hword := s.acc_afterDigits_textDigits t g
      rw [State.afterDigits_textDigits_succ] at hword ⊢
      generalize s.afterDigits (textDigits t (8 * g + 7)) = u at *
      have heighth : digitIndex u.cnt = 7#3 :=
        BitVec.eq_of_toNat_eq (by rw [digitIndex_toNat, hpos, h7]; rfl)
      have hgroup : (groupIndex u.cnt).toNat = g := by rw [groupIndex_toNat, hpos]; omega
      have hprev : (8 * g + 7) / 8 = g := by omega
      have hnext : (8 * g + 7 + 1) / 8 = g + 1 := by omega
      rw [State.afterDigit_acc] at hword
      rw [State.afterDigit_of_eighth heighth, fieldRegisters_referenceCommit_advance, hword, hgroup, hnext]
      exact fieldRegisters_referenceCommit_congr (hprev ▸ ih) g _
    · have hsame : (n + 1) / 8 = n / 8 := by omega
      rw [State.afterDigits_textDigits_succ, hsame, ← ih]
      exact State.fieldRegisters_afterDigit (by rw [hpos]; exact h7) _

/-! ### The machine on a text -/

theorem State.done_of_cnt_eq {s : State} (h : s.legal = true) (hs : s.status ≠ .err) (hcnt : s.cnt.toNat = 80) :
    s.status = .done := by
  by_contra hdone
  have hle : s.cnt.toNat ≤ 79 := (s.legal_run h ((s.status.eq_run_iff).mpr ⟨hdone, hs⟩)).1
  omega

/-- START and n digits from any state: the n digits are counted, the groups they complete are committed, and nothing is
raised (R101, R102). -/
theorem runProgram_openProgram_take {t : Text} {n : Nat} (hlen : n ≤ t.length) (hn : n ≤ 80)
    (hdigits : ∀ c ∈ t.take n, (hexVal c).isSome = true) (s : State) :
    ∃ u, runProgram s (openProgram (t.take n)) = .next u ∧ u.legal = true ∧ u.status ≠ .err ∧ u.cnt.toNat = n ∧
      u.fieldRegisters = (s.clear.commitGroups t (n / 8)).fieldRegisters := by
  obtain ⟨hrun, hlegal, hstatus, -⟩ := runProgram_digits (map_hexVal_take hlen hdigits) s.legal_clear
    (by simp : s.clear.status ≠ .err) (by simpa using hn)
  have hcnt := State.toNat_cnt_afterDigits_textDigits s.clear_cnt t hn
  have hfields := State.fieldRegisters_afterDigits_textDigits s.clear_cnt t hn
  refine ⟨(s.clear.afterDigits (textDigits t n)).withInputs [], ?_, ?_⟩
  · rw [openProgram, runProgram_start_cons, hrun]
  · simp only [State.legal_withInputs, State.withInputs_status, State.withInputs_cnt, State.fieldRegisters_withInputs]
    exact ⟨hlegal, hstatus, hcnt, hfields⟩

/-- 80 digits end in DONE with the record of the group words. -/
theorem runProgram_of_decodeText_ok {t : Text} {r : HeaderRecord} (h : decodeText t = .ok r) (s : State) :
    ∃ u, runProgram s (openProgram (t.take 80)) = .next u ∧ u.legal = true ∧ u.status = .done ∧
      u.fieldRegisters = r := by
  obtain ⟨hlen, hdigits, rfl⟩ := decodeText_eq_ok_iff.mp h
  obtain ⟨u, hrun, hlegal, hstatus, hcnt, hfields⟩ := runProgram_openProgram_take hlen le_rfl hdigits s
  exact ⟨u, hrun, hlegal, State.done_of_cnt_eq hlegal hstatus hcnt,
    hfields.trans (s.clear.fieldRegisters_commitGroups_ten t)⟩

theorem openProgram_append (t u : Text) : openProgram (t ++ u) = openProgram t ++ textProgram u := by
  simp [openProgram, textProgram]

/-- A command that raises a ParseError at the end of a part of a run. -/
theorem runProgram_append_raise {s u : State} {ps : List InputSample} {p : InputSample} {cause : ErrCause}
    (hps : runProgram s ps = .next u) (hlegal : u.legal = true) (hrun : u.status = .run)
    (hp : clockEdge u p = .next (u.raiseParseError cause u.cnt)) (hcause : cause ≠ .noError) :
    ∃ v, runProgram s (ps ++ [p]) = .next v ∧ v.legal = true ∧ v.status = .err ∧ v.errCause = cause ∧ v.cnt = u.cnt :=
  ⟨_, runProgram_append_singleton hps hp, State.legal_raiseParseError hlegal hrun hcause, rfl, rfl, rfl⟩

/-- The first non-digit raises NON_HEX at its position (R145, R222). -/
theorem runProgram_of_firstNonDigit {t : Text} {pos : Nat} (h : firstNonDigit t = some pos) (s : State) :
    ∃ u, runProgram s (openProgram (t.take (pos + 1))) = .next u ∧ u.legal = true ∧ u.status = .err ∧
      u.errCause = .nonHex ∧ u.cnt.toNat = pos := by
  obtain ⟨h80, hdigits, hlen, hnone⟩ := firstNonDigit_eq_some h
  obtain ⟨u, hrun, hlegal, hstatus, rfl, -⟩ := runProgram_openProgram_take hlen.le h80.le hdigits s
  have hurun := State.run_of_cnt_lt hlegal hstatus h80
  have hedge : clockEdge u (charSample t[u.cnt.toNat]) = .next (u.raiseParseError .nonHex u.cnt) := by
    rw [clockEdge_nonDigit u hnone, State.whenRunning_of_run hlegal hurun]
  rw [List.take_succ_eq_append_getElem hlen, openProgram_append]
  obtain ⟨v, hv, hvlegal, hverr, hvcause, hvcnt⟩ := runProgram_append_raise hrun hlegal hurun hedge (by decide)
  exact ⟨v, hv, hvlegal, hverr, hvcause, congrArg BitVec.toNat hvcnt⟩

section
variable {t : Text} (hlen : t.length < 80) (hdigits : ∀ c ∈ t, (hexVal c).isSome = true)
include hlen hdigits

/-- A short text of digits leaves the machine in RUN. -/
theorem runProgram_openProgram_of_short (s : State) :
    ∃ u, runProgram s (openProgram t) = .next u ∧ u.legal = true ∧ u.status = .run ∧ u.cnt.toNat = t.length := by
  obtain ⟨u, hrun, hlegal, hstatus, hcnt, -⟩ := runProgram_openProgram_take le_rfl hlen.le
    (fun c hc => hdigits c (List.mem_of_mem_take hc)) s
  rw [List.take_length] at hrun
  exact ⟨u, hrun, hlegal, State.run_of_cnt_lt hlegal hstatus (hcnt ▸ hlen), hcnt⟩

/-- END after a short text of digits raises SHORT_INPUT at its length (R103). -/
theorem runProgram_decodeProgram_of_short (s : State) :
    ∃ u, runProgram s (decodeProgram t) = .next u ∧ u.legal = true ∧ u.status = .err ∧ u.errCause = .shortInput ∧
      u.cnt.toNat = t.length := by
  obtain ⟨u, hrun, hlegal, hurun, hcnt⟩ := runProgram_openProgram_of_short hlen hdigits s
  rw [← hcnt]
  have hedge : clockEdge u endSample = .next (u.raiseParseError .shortInput u.cnt) := by
    rw [clockEdge_end u rfl rfl, State.whenRunning_of_run hlegal hurun]
  obtain ⟨v, hv, hvlegal, hverr, hvcause, hvcnt⟩ := runProgram_append_raise hrun hlegal hurun hedge (by decide)
  exact ⟨v, hv, hvlegal, hverr, hvcause, congrArg BitVec.toNat hvcnt⟩

end

/-! ### The commands that come after the end -/

theorem not_start_of_mem_tail_decodeProgram {t : Text} {p : InputSample} (h : p ∈ (decodeProgram t).tail) :
    p.rst = false ∧ p.cmd ≠ 3#2 := by
  have hp : p ∈ textProgram t ++ [endSample] := h
  simp only [textProgram, List.mem_append, List.mem_map, List.mem_singleton] at hp
  obtain ⟨c, -, rfl⟩ | rfl := hp
  · exact ⟨rfl, (by decide : Config.cmdChar ≠ 3#2)⟩
  · decide

theorem openProgram_take_prefix (t : Text) (n : Nat) : openProgram (t.take n) <+: decodeProgram t :=
  List.IsPrefix.trans ((List.prefix_cons_inj _).mpr ((List.take_prefix n t).map charSample)) (List.prefix_append _ _)

/-- Once a part of DECODE has ended the invocation, NOP commands put in anywhere and the rest of the program change
nothing any more (R107). -/
theorem runProgram_of_ended {s u : State} {t : Text} {ps qs : List InputSample} (hs : s.legal = true)
    (hqs : qs <+: decodeProgram t) (hqs' : qs ≠ []) (hrun : runProgram s qs = .next u) (hlegal : u.legal = true)
    (hended : u.status ≠ .run) (hps : withoutNops ps <+: decodeProgram t) (hle : qs.length ≤ (withoutNops ps).length) :
    runProgram s ps = .next (u.withInputs []) := by
  obtain ⟨rest, hrest⟩ := List.prefix_of_prefix_length_le hqs hps hle
  rw [← runProgram_withoutNops hs, ← hrest, runProgram_append, hrun, andThen_next]
  refine afterTheEndNothingChanges u rest hlegal hended fun p hp => not_start_of_mem_tail_decodeProgram (t := t) ?_
  obtain ⟨q, qs, rfl⟩ := List.exists_cons_of_ne_nil hqs'
  obtain ⟨more, hmore⟩ := hps
  rw [← hmore, ← hrest]
  simp [hp]

/-! ### The machine agrees with Decode -/

theorem length_decodeProgram (t : Text) : (decodeProgram t).length = t.length + 2 := by
  simp [decodeProgram, openProgram, textProgram]

theorem length_openProgram_take {t : Text} {n : Nat} (h : n ≤ t.length) : (openProgram (t.take n)).length = n + 1 := by
  simpa [openProgram, textProgram] using h

/-- Settles O36: the 80th digit ends the invocation with the record of the group words, and what is left of the program
changes nothing. -/
theorem machineAgreesWithDecodeOnSuccess : Obligations.MachineAgreesWithDecodeOnSuccess := by
  intro s t r ps hlegal hok hps hlen
  obtain ⟨u, hrun, hulegal, hdone, hfields⟩ := runProgram_of_decodeText_ok hok s
  obtain ⟨hlen80, -, -⟩ := decodeText_eq_ok_iff.mp hok
  have hended := runProgram_of_ended hlegal (openProgram_take_prefix t 80) (List.cons_ne_nil _ _) hrun hulegal
    (by simp [hdone]) hps ((length_openProgram_take hlen80).trans_le hlen)
  obtain ⟨hcnt, hcause, hpos⟩ := u.legal_done hulegal hdone
  refine ⟨u.withInputs [], hended, hdone, ?_, ?_, hcause, hpos, hcnt, ?_, ?_⟩
  · exact (State.recValid_eq_one_iff _).mpr hdone
  · exact (State.err_eq_zero_iff _).mpr (by simp [hdone])
  · exact (State.record_eq_some_iff _ r).mpr ⟨hdone, hfields.symm⟩
  · exact (State.observe_eq_record_iff _ r).mpr ⟨hdone, hfields.symm⟩

/-- What the host reads of a ParseError (R208). -/
def State.reports (u : State) (cause : ErrCause) (pos : Nat) : Prop :=
  u.status = .err ∧ u.err = 1 ∧ u.recValid = 0 ∧ u.errCause = cause ∧ u.errPos.toNat = pos ∧ u.cnt.toNat = pos

theorem State.reports_of_legal {u : State} (h : u.legal = true) (herr : u.status = .err) :
    u.reports u.errCause u.cnt.toNat := by
  obtain ⟨-, -, hpos⟩ := u.legal_err h herr
  refine ⟨herr, u.err_eq_one_iff.mpr herr, u.recValid_eq_zero_iff.mpr (by simp [herr]), rfl,
    congrArg BitVec.toNat hpos, rfl⟩

/-- NON_HEX from the step that carries the first non-digit on. -/
theorem reports_nonHex {s : State} {t : Text} {pos : Nat} {ps : List InputSample} (hlegal : s.legal = true)
    (hfirst : firstNonDigit t = some pos) (hps : withoutNops ps <+: decodeProgram t)
    (hlen : pos + 2 ≤ (withoutNops ps).length) : ∃ u, runProgram s ps = .next u ∧ u.reports .nonHex pos := by
  obtain ⟨-, -, hpos, -⟩ := firstNonDigit_eq_some hfirst
  obtain ⟨u, hrun, hulegal, herr, hcause, hcnt⟩ := runProgram_of_firstNonDigit hfirst s
  refine ⟨_, runProgram_of_ended hlegal (openProgram_take_prefix t (pos + 1)) (List.cons_ne_nil _ _) hrun hulegal
    (by simp [herr]) hps ((length_openProgram_take hpos).trans_le hlen), ?_⟩
  have hreports := State.reports_of_legal ((u.legal_withInputs []).trans hulegal) herr
  rwa [State.withInputs_errCause, State.withInputs_cnt, hcause, hcnt] at hreports

/-- The whole of DECODE reports the error that Decode gives. -/
theorem reports_of_decodeText_error {s : State} {t : Text} {cause : ErrCause} {pos : Nat} {ps : List InputSample}
    (hlegal : s.legal = true) (herror : decodeText t = .error cause pos) (hps : withoutNops ps = decodeProgram t) :
    ∃ u, runProgram s ps = .next u ∧ u.reports cause pos := by
  obtain ⟨rfl, hfirst⟩ | ⟨rfl, hlen, hdigits, rfl⟩ := decodeText_eq_error_iff.mp herror
  · obtain ⟨-, -, hpos, -⟩ := firstNonDigit_eq_some hfirst
    refine reports_nonHex hlegal hfirst (hps ▸ List.prefix_rfl) ?_
    rw [hps, length_decodeProgram]
    omega
  · obtain ⟨u, hrun, hulegal, herr, hcause, hcnt⟩ := runProgram_decodeProgram_of_short hlen hdigits s
    rw [← hps, runProgram_withoutNops hlegal] at hrun
    exact ⟨u, hrun, hcause ▸ hcnt ▸ State.reports_of_legal hulegal herr⟩

/-- Settles O37: a non-digit is reported from its own step on and a short text by END; so DECODE ends in ERR when Decode
gives an error, and in DONE, by O36, when it gives a record. -/
theorem machineAgreesWithDecodeOnErrors : Obligations.MachineAgreesWithDecodeOnErrors := by
  refine ⟨fun s t cause pos ps hlegal herror => ⟨fun hps => ?reported, fun hcause hps => ?running⟩,
    fun s t ps hlegal hps => ?total⟩
  case reported =>
    obtain hps | ⟨rfl, hps, hlen⟩ := hps
    · exact reports_of_decodeText_error hlegal herror hps
    · obtain ⟨-, hfirst⟩ | ⟨hcause, -⟩ := decodeText_eq_error_iff.mp herror
      · exact reports_nonHex hlegal hfirst hps hlen
      · cases hcause
  case running =>
    obtain ⟨rfl, -⟩ | ⟨-, hlen, hdigits, -⟩ := decodeText_eq_error_iff.mp herror
    · cases hcause
    · obtain ⟨u, hrun, -, hurun, -⟩ := runProgram_openProgram_of_short hlen hdigits s
      exact ⟨u, by rw [← runProgram_withoutNops hlegal, hps, hrun], hurun⟩
  case total =>
    cases hresult : decodeText t with
    | ok r =>
      obtain ⟨hlen, -, -⟩ := decodeText_eq_ok_iff.mp hresult
      obtain ⟨u, hrun, hdone, -⟩ := machineAgreesWithDecodeOnSuccess s t r ps hlegal hresult (hps ▸ List.prefix_rfl)
        (by rw [hps, length_decodeProgram]; omega)
      exact ⟨u, hrun, by simp [hdone]⟩
    | error cause pos =>
      obtain ⟨u, hrun, herr, -⟩ := reports_of_decodeText_error hlegal hresult hps
      exact ⟨u, hrun, by simp [herr]⟩

end Sys2Proof.Machine
end

section
/-! Exceptions (60_exceptions.md): the clock edges that raise a ParseError and what they write, and that the first one of an
invocation stands. -/

namespace Sys2Proof.Machine

/-- Of all that a clock edge can do, only END and a non-digit in RUN lead to ERR, each by raising its own cause at CNT
(R221, R224). -/
theorem clockEdge_raises_parseError {s t : State} {p : InputSample} (h : clockEdge s p = .next t)
    (hs : s.status ≠ .err) (ht : t.status = .err) :
    p.rst = false ∧ s.legal = true ∧ s.status = .run ∧
      (p.cmd = Config.cmdEnd ∧ t.errCause = .shortInput ∨
        p.cmd = Config.cmdChar ∧ hexVal p.data = none ∧ t.errCause = .nonHex) ∧
      t = s.raiseParseError t.errCause s.cnt := by
  obtain ⟨rfl, -⟩ | ⟨-, -, rfl, -⟩ | ⟨hrst, hlegal, hrun, hcmd, rfl⟩ | ⟨hrst, hlegal, hrun, hcmd, hdata, rfl⟩ |
    ⟨-, -, hrun, -, d, -, rfl⟩ := clockEdge_next h
  · cases ht
  · exact absurd ht hs
  · exact ⟨hrst, hlegal, hrun, .inl ⟨hcmd, rfl⟩, rfl⟩
  · exact ⟨hrst, hlegal, hrun, .inr ⟨hcmd, hdata, rfl⟩, rfl⟩
  · rw [State.afterDigit_status, hrun] at ht
    exact absurd ht (statusAfterDigit_run_ne_err s.cnt)

theorem clockEdge_keeps_legal {s t : State} {p : InputSample} (h : clockEdge s p = .next t) (hlegal : s.legal = true) :
    t.legal = true := by
  obtain ⟨u, hedge, hu⟩ := clockEdge_total hlegal p
  rw [h] at hedge
  injection hedge with htu
  rwa [htu]

/-- Settles O31: a clock edge reaches ERR only by raising a ParseError, which is the three writes of R224, and in RUN both
END and a non-digit do raise one. -/
theorem parseErrorWritesThreeRegisters : Obligations.ParseErrorWritesThreeRegisters := by
  refine ⟨fun s t p hedge hs ht => ?raised, fun _ _ _ => rfl, fun s p hlegal hrun hrst hcmd => ?raises⟩
  case raised =>
    obtain ⟨hrst, hlegal, hrun, hcause, hwrites⟩ := clockEdge_raises_parseError hedge hs ht
    obtain ⟨hcnt, -, -⟩ := s.legal_run hlegal hrun
    exact ⟨hrst, hrun, hcause, hwrites, hcnt, t.err_eq_one_iff.mpr ht, t.recValid_eq_zero_iff.mpr (by simp [ht])⟩
  case raises =>
    refine ⟨_, stepIsTheStepOfR108 s p hlegal, ?_⟩
    obtain hend | ⟨hchar, hdata⟩ := hcmd
    · rw [referenceStep_end hrst hend hrun, State.raiseParseError_status]
    · rw [referenceStep_nonDigit hrst hchar hrun hdata, State.raiseParseError_status]

/-- Settles O32: the raised ParseError is reported at the CNT of its step, and by O30 no later command changes anything. -/
theorem firstErrorIsReported : Obligations.FirstErrorIsReported := by
  intro s t p ps hlegal hrun hedge ht hps
  obtain ⟨-, -, -, -, hwrites⟩ := clockEdge_raises_parseError hedge (by simp [hrun]) ht
  have hpos : t.errPos = s.cnt := congrArg State.errPos hwrites
  have hrest := afterTheEndNothingChanges t ps (clockEdge_keeps_legal hedge hlegal) (by simp [ht]) hps
  exact ⟨t.withInputs [], hrest, (State.observe_eq_parseError_iff _ _ _).mpr ⟨ht, rfl, congrArg BitVec.toNat hpos.symm⟩⟩

end Sys2Proof.Machine
end

section
/-! Reset and hazards (70_reset_and_hazards.md): that no record depends on what the field registers and ACC held when the
invocation began, the reset step, and the reset state. -/

namespace Sys2Proof.Machine

/-! ### The digits of an invocation -/

theorem textDigits_map_digitSymbol {ds : List Nibble} {n : Nat} (hlen : ds.length = n) :
    textDigits (ds.map digitSymbol) n = ds := by
  subst hlen
  refine List.ext_getElem (length_textDigits _ _) fun i _ hi => ?_
  simp [textDigits, nibbleAt, hi, hexVal_digitSymbol]

/-- u is the state after the digits ds of an invocation, whatever the field registers and ACC held at its beginning. -/
def State.isAfterDigits (u : State) (ds : List Nibble) : Prop :=
  ds.length = u.cnt.toNat ∧ ∃ s : State, s.cnt = 0#7 ∧ u = s.afterDigits ds

section
variable {u : State}

theorem State.isAfterDigits_nil (hcnt : u.cnt = 0#7) : u.isAfterDigits [] :=
  ⟨by rw [hcnt]; rfl, u, hcnt, rfl⟩

theorem State.isAfterDigits_afterDigit {ds : List Nibble} (h : u.isAfterDigits ds) (hcnt : u.cnt ≤ 79#7) (d : Nibble) :
    (u.afterDigit d).isAfterDigits (ds ++ [d]) := by
  obtain ⟨hlen, s, hs, hu⟩ := h
  refine ⟨?_, s, hs, ?_⟩
  · rw [State.afterDigit_cnt, position_succ_toNat hcnt, ← hlen, List.length_append]
    rfl
  · rw [State.afterDigits_append, ← hu]
    rfl

/-- 80 digits write the whole record, and nothing of what the registers held before is left in it (R122, R250). -/
theorem State.fieldRegisters_of_isAfterDigits {ds : List Nibble} (h : u.isAfterDigits ds) (hcnt : u.cnt = 80#7) :
    u.fieldRegisters = recordOf (groupWords (ds.map digitSymbol)) := by
  obtain ⟨hlen, s, hs, hu⟩ := h
  have hdigits : textDigits (ds.map digitSymbol) 80 = ds :=
    textDigits_map_digitSymbol (hlen.trans (congrArg BitVec.toNat hcnt))
  have hfields := State.fieldRegisters_afterDigits_textDigits hs (ds.map digitSymbol) (le_refl 80)
  rw [hdigits, ← hu] at hfields
  exact hfields.trans (s.fieldRegisters_commitGroups_ten _)

end

/-! ### Two invocations given the same commands -/

/-- Two states of the block that differ only in what their invocations began with: STATE, CNT and the error registers are
the same, and short of an error both are the state after the same digits. -/
def State.sameButForStart (u u' : State) : Prop :=
  u.legal = true ∧ u'.legal = true ∧ sameStatus u u' ∧
    (u.status ≠ .err → ∃ ds, u.isAfterDigits ds ∧ u'.isAfterDigits ds)

theorem State.sameButForStart_of_run {s s' : State} (h : s.legal = true) (h' : s'.legal = true) (hr : s.status = .run)
    (hr' : s'.status = .run) (hcnt : s.cnt = 0#7) (hcnt' : s'.cnt = 0#7) : s.sameButForStart s' := by
  obtain ⟨-, hcause, hpos⟩ := s.legal_run h hr
  obtain ⟨-, hcause', hpos'⟩ := s'.legal_run h' hr'
  exact ⟨h, h', ⟨hr.trans hr'.symm, hcnt.trans hcnt'.symm, hcause.trans hcause'.symm, hpos.trans hpos'.symm⟩,
    fun _ => ⟨[], State.isAfterDigits_nil hcnt, State.isAfterDigits_nil hcnt'⟩⟩

theorem State.sameButForStart_clear (u u' : State) : u.clear.sameButForStart u'.clear :=
  State.sameButForStart_of_run u.legal_clear u'.legal_clear rfl rfl rfl rfl

section
variable {u u' : State} (h : u.sameButForStart u')
include h

theorem State.sameButForStart_raiseParseError (hr : u.status = .run) {c : ErrCause} (hc : c ≠ .noError) :
    (u.raiseParseError c u.cnt).sameButForStart (u'.raiseParseError c u'.cnt) := by
  obtain ⟨hlegal, hlegal', ⟨hstatus, hcnt, -, -⟩, -⟩ := h
  exact ⟨State.legal_raiseParseError hlegal hr hc, State.legal_raiseParseError hlegal' (hstatus ▸ hr) hc,
    ⟨rfl, hcnt, rfl, hcnt⟩, fun hne => absurd rfl hne⟩

/-- A digit is one more of the digits that led to both. -/
theorem State.sameButForStart_afterDigit (hr : u.status = .run) (d : Nibble) :
    (u.afterDigit d).sameButForStart (u'.afterDigit d) := by
  obtain ⟨hlegal, hlegal', ⟨hstatus, hcnt, hcause, hpos⟩, hdigits⟩ := h
  refine ⟨State.legal_afterDigit hlegal hr d, State.legal_afterDigit hlegal' (hstatus ▸ hr) d, ?status, fun _ => ?digits⟩
  case status =>
    simp only [sameStatus, State.afterDigit_status, State.afterDigit_cnt, State.afterDigit_errCause,
      State.afterDigit_errPos]
    exact ⟨by rw [hcnt, hstatus], by rw [hcnt], hcause, hpos⟩
  case digits =>
    obtain ⟨ds, hds, hds'⟩ := hdigits (by simp [hr])
    obtain ⟨hle, -, -⟩ := u.legal_run hlegal hr
    exact ⟨ds ++ [d], State.isAfterDigits_afterDigit hds hle d, State.isAfterDigits_afterDigit hds' (hcnt ▸ hle) d⟩

/-- Which case of R108 a step is does not depend on ACC or a field register. -/
theorem State.sameButForStart_referenceStep (p : InputSample) :
    (referenceStep u p).sameButForStart (referenceStep u' p) := by
  have ⟨_, _, ⟨hstatus, _⟩, _⟩ := h
  by_cases hclear : p.rst = true ∨ p.cmd = 3#2
  · rw [referenceStep_clear hclear, referenceStep_clear hclear]
    exact u.sameButForStart_clear u'
  obtain ⟨hrst, hstart⟩ : p.rst = false ∧ p.cmd ≠ 3#2 := by simpa using hclear
  by_cases hkeep : p.cmd = 0#2 ∨ u.status ≠ .run
  · rwa [referenceStep_keep hrst hstart hkeep, referenceStep_keep hrst hstart (hstatus ▸ hkeep)]
  obtain ⟨hnop, hrun⟩ : p.cmd ≠ 0#2 ∧ u.status = .run := by simpa using hkeep
  have hrun' : u'.status = .run := hstatus ▸ hrun
  obtain hcmd | hcmd | hcmd | hcmd := cmd_cases p.cmd
  · exact absurd hcmd hnop
  · cases hdata : hexVal p.data with
    | none =>
      rw [referenceStep_nonDigit hrst hcmd hrun hdata, referenceStep_nonDigit hrst hcmd hrun' hdata]
      exact State.sameButForStart_raiseParseError h hrun (by decide)
    | some d =>
      rw [referenceStep_digit hrst hcmd hrun hdata, referenceStep_digit hrst hcmd hrun' hdata]
      exact State.sameButForStart_afterDigit h hrun d
  · rw [referenceStep_end hrst hcmd hrun, referenceStep_end hrst hcmd hrun']
    exact State.sameButForStart_raiseParseError h hrun (by decide)
  · exact absurd hcmd hstart

/-- In DONE 80 digits have been taken, so both hold the record of those digits. -/
theorem State.observe_eq_of_sameButForStart : u.observe = u'.observe := by
  obtain ⟨hlegal, -, ⟨hstatus, hcnt, hcause, hpos⟩, hdigits⟩ := h
  cases hu : u.status with
  | run => rw [u.observe_eq_running_iff.mpr hu, u'.observe_eq_running_iff.mpr (hstatus ▸ hu)]
  | done =>
    obtain ⟨ds, hds, hds'⟩ := hdigits (by simp [hu])
    obtain ⟨h80, -, -⟩ := u.legal_done hlegal hu
    rw [(u.observe_eq_record_iff _).mpr ⟨hu, (State.fieldRegisters_of_isAfterDigits hds h80).symm⟩,
      (u'.observe_eq_record_iff _).mpr ⟨hstatus ▸ hu, (State.fieldRegisters_of_isAfterDigits hds' (hcnt ▸ h80)).symm⟩]
  | err =>
    rw [(u.observe_eq_parseError_iff _ _).mpr ⟨hu, rfl, rfl⟩,
      (u'.observe_eq_parseError_iff _ _).mpr ⟨hstatus ▸ hu, hcause, congrArg BitVec.toNat hpos⟩]

end

/-- The same commands keep two such states such, by induction on the commands. -/
theorem runProgram_keeps_sameButForStart {u u' : State} (h : u.sameButForStart u') (ps : List InputSample) :
    ∃ t t' : State, runProgram u ps = .next (t.withInputs []) ∧ runProgram u' ps = .next (t'.withInputs []) ∧
      t.sameButForStart t' := by
  induction ps generalizing u u' with
  | nil => exact ⟨u, u', runProgram_nil u, runProgram_nil u', h⟩
  | cons p ps ih =>
    have ⟨hlegal, hlegal', _⟩ := h
    rw [runProgram_cons_eq_andThen, runProgram_cons_eq_andThen, stepIsTheStepOfR108 u p hlegal,
      stepIsTheStepOfR108 u' p hlegal']
    exact ih (State.sameButForStart_referenceStep h p)

/-- Settles O35: the two states begin with no digit taken, every command keeps them the same but for their start, and of
such states the host observes the same. -/
theorem recordDoesNotDependOnTheStart : Obligations.RecordDoesNotDependOnTheStart := by
  intro s s' ps hlegal hlegal' hrun hrun' hcnt hcnt'
  have hstart := State.sameButForStart_of_run hlegal hlegal' hrun hrun' hcnt hcnt'
  obtain ⟨t, t', ht, ht', h⟩ := runProgram_keeps_sameButForStart hstart ps
  have ⟨_, _, hstatus, _⟩ := h
  have hobserve : t.observe = t'.observe := State.observe_eq_of_sameButForStart h
  exact ⟨_, _, ht, ht', hobserve, hstatus⟩

/-! ### Reset -/

/-- Settles O18: rst and START both clear the registers, from any state. -/
theorem resetInputWinsOverTheCommand : Obligations.ResetInputWinsOverTheCommand := by
  intro s cmd data
  have hrst : clockEdge s ⟨true, cmd, data⟩ = .next s.clear := clockEdge_rst s rfl
  have hstart : clockEdge s ⟨false, 3#2, data⟩ = .next s.clear := clockEdge_start s rfl rfl
  exact ⟨hrst, hstart.trans hrst.symm⟩

theorem packAddress_replicate_zero : packAddress (Vector.replicate 8 0) = 0 := by decide

/-- Settles O19: each register by its definition, each address group as an entry of a vector of zeros, and the output
ports from the registers. -/
theorem resetStateIsAllZero : Obligations.ResetStateIsAllZero := by
  refine ⟨rfl, rfl, rfl, rfl, rfl, rfl, fun k => ⟨?src, ?dst⟩, rfl, rfl, rfl, rfl, rfl, rfl, ?outputs⟩
  case src => exact Vector.getElem_replicate k.isLt
  case dst => exact Vector.getElem_replicate k.isLt
  case outputs =>
    have hsrc : packAddress State.reset.src = 0 := packAddress_replicate_zero
    have hdst : packAddress State.reset.dst = 0 := packAddress_replicate_zero
    rw [State.outputs, hsrc, hdst]
    rfl

end Sys2Proof.Machine
end
